-- ==== Sys2Proof/Word.lean ====
section
/-! DEFINITION. The word types of the core (R9): bytes of 8 bits, addresses and PC of 16 bits. -/

namespace Sys2Proof

/-- A `u8` of the spec: AC, X, Y, SP, Status, one byte of memory (R9). -/
abbrev Byte := BitVec 8

/-- A `u16` of the spec: PC and every address (R9). -/
abbrev Word := BitVec 16

end Sys2Proof
end

