-- ==== Sys2Proof/Machine/Bits.lean ====
section
/-! DEFINITION. The bit-field, extension and byte-order helpers of the spec's notation (00_scope.md section 5, R56). -/

namespace Sys2Proof.Machine

/-- `zext_16(b)`: a byte zero-extended to 16 bits. -/
def zext16 (b : Byte) : Word := b.setWidth 16

/-- `sext_16(b)`: a byte sign-extended to 16 bits. -/
def sext16 (b : Byte) : Word := b.signExtend 16

/-- `trunc_8(n)`: `n mod 256`. -/
def trunc8 (n : Nat) : Byte := BitVec.ofNat 8 n

/-- `lo(w)`: bits 7..0. -/
def lo (w : Word) : Byte := w.setWidth 8

/-- `hi(w)`: bits 15..8. -/
def hi (w : Word) : Byte := (w >>> 8).setWidth 8

/-- `h ++ l`: the word whose high byte is `h` and whose low byte is `l`. -/
def join (h l : Byte) : Word := h ++ l

/-- Byte `k` of a number whose byte 0 is the first byte of an instruction. -/
def byteOf (w k : Nat) : Byte := BitVec.ofNat 8 (w / 256 ^ k)

end Sys2Proof.Machine
end

