-- ==== Sys2Proof/Syntax.lean ====
section
/-! DEFINITION. The instructions as syntax: one constructor for each row of the opcode table (R83), with the operand bytes
it carries, and for each its mnemonic and addressing-mode operand (R81, R100). -/

namespace Sys2Proof

/-- The 13 addressing modes (R100). -/
inductive Mode where
  | accumulator
  | immediate
  | zeroPage
  | zeroPageX
  | zeroPageY
  | absolute
  | absoluteX
  | absoluteY
  | indirect
  | indexedIndirect
  | indirectIndexed
  | relative
  | implicit
deriving DecidableEq, Repr

/-- `nbytes(mode)`, the operand bytes of a mode (R82, R100). -/
def Mode.nbytes : Mode → Nat
  | .implicit | .accumulator => 0
  | .immediate | .zeroPage | .zeroPageX | .zeroPageY | .indexedIndirect | .indirectIndexed | .relative => 1
  | .absolute | .absoluteX | .absoluteY | .indirect => 2

/-- An operand: an addressing mode with the operand bytes the instruction carries (R80, R87). -/
inductive Operand where
  /-- `imm8` (R102). -/
  | immediate (imm : Byte)
  /-- `zp8` (R103). -/
  | zeroPage (zp : Byte)
  /-- `zp8`, to be indexed with X (R104). -/
  | zeroPageX (zp : Byte)
  /-- `zp8`, to be indexed with Y (R104). -/
  | zeroPageY (zp : Byte)
  /-- The accumulator (R111). -/
  | accumulator
  /-- `hi8 ++ lo8` (R105). -/
  | absolute (addr : Word)
  /-- `hi8 ++ lo8`, to be indexed with X (R106). -/
  | absoluteX (addr : Word)
  /-- `hi8 ++ lo8`, to be indexed with Y (R106). -/
  | absoluteY (addr : Word)
  /-- The pointer of `JMP ($addr)` (R107). -/
  | indirect (ptr : Word)
  /-- `zp8` of `(d,x)` (R108). -/
  | indexedIndirect (zp : Byte)
  /-- `zp8` of `(d),y` (R110). -/
  | indirectIndexed (zp : Byte)
  /-- `off8` (R112). -/
  | relative (off : Byte)
  /-- No operand (R113). -/
  | implicit
deriving DecidableEq, Repr

/-- The addressing mode of an operand. -/
def Operand.mode : Operand → Mode
  | .accumulator => .accumulator
  | .immediate _ => .immediate
  | .zeroPage _ => .zeroPage
  | .zeroPageX _ => .zeroPageX
  | .zeroPageY _ => .zeroPageY
  | .absolute _ => .absolute
  | .absoluteX _ => .absoluteX
  | .absoluteY _ => .absoluteY
  | .indirect _ => .indirect
  | .indexedIndirect _ => .indexedIndirect
  | .indirectIndexed _ => .indirectIndexed
  | .relative _ => .relative
  | .implicit => .implicit

/-- The 56 mnemonics (R2). -/
inductive Mnemonic where
  | lda | ldx | ldy | sta | stx | sty | tax | txa | tay | tya | txs | tsx
  | adc | sbc | inc | dec | inx | dex | iny | dey
  | asl | lsr | rol | ror | and | ora | eor | bit | cmp | cpx | cpy
  | bcc | bcs | beq | bne | bpl | bmi | bvc | bvs | jmp | jsr | rts
  | brk | rti | pha | php | pla | plp | clc | sec | cli | sei | cld | sed | clv | nop
deriving DecidableEq, Repr

/-- An instruction: one constructor for each row of the opcode table (R83). -/
inductive Instr where
  -- Loads, stores and transfers (41_load_store_transfer.md)
  | ldaImmediate (imm : Byte)
  | ldaZeroPage (zp : Byte)
  | ldaZeroPageX (zp : Byte)
  | ldaAbsolute (addr : Word)
  | ldaAbsoluteX (addr : Word)
  | ldaAbsoluteY (addr : Word)
  | ldaIndexedIndirect (zp : Byte)
  | ldaIndirectIndexed (zp : Byte)
  | ldxImmediate (imm : Byte)
  | ldxZeroPage (zp : Byte)
  | ldxZeroPageY (zp : Byte)
  | ldxAbsolute (addr : Word)
  | ldxAbsoluteY (addr : Word)
  | ldyImmediate (imm : Byte)
  | ldyZeroPage (zp : Byte)
  | ldyZeroPageX (zp : Byte)
  | ldyAbsolute (addr : Word)
  | ldyAbsoluteX (addr : Word)
  | staZeroPage (zp : Byte)
  | staZeroPageX (zp : Byte)
  | staAbsolute (addr : Word)
  | staAbsoluteX (addr : Word)
  | staAbsoluteY (addr : Word)
  | staIndexedIndirect (zp : Byte)
  | staIndirectIndexed (zp : Byte)
  | stxZeroPage (zp : Byte)
  | stxZeroPageY (zp : Byte)
  | stxAbsolute (addr : Word)
  | styZeroPage (zp : Byte)
  | styZeroPageX (zp : Byte)
  | styAbsolute (addr : Word)
  | tax
  | txa
  | tay
  | tya
  | txs
  | tsx
  -- Arithmetic, increment and decrement (42_arithmetic.md)
  | adcImmediate (imm : Byte)
  | adcZeroPage (zp : Byte)
  | adcZeroPageX (zp : Byte)
  | adcAbsolute (addr : Word)
  | adcAbsoluteX (addr : Word)
  | adcAbsoluteY (addr : Word)
  | adcIndexedIndirect (zp : Byte)
  | adcIndirectIndexed (zp : Byte)
  | sbcImmediate (imm : Byte)
  | sbcZeroPage (zp : Byte)
  | sbcZeroPageX (zp : Byte)
  | sbcAbsolute (addr : Word)
  | sbcAbsoluteX (addr : Word)
  | sbcAbsoluteY (addr : Word)
  | sbcIndexedIndirect (zp : Byte)
  | sbcIndirectIndexed (zp : Byte)
  | incZeroPage (zp : Byte)
  | incZeroPageX (zp : Byte)
  | incAbsolute (addr : Word)
  | incAbsoluteX (addr : Word)
  | decZeroPage (zp : Byte)
  | decZeroPageX (zp : Byte)
  | decAbsolute (addr : Word)
  | decAbsoluteX (addr : Word)
  | inx
  | dex
  | iny
  | dey
  -- Shifts, rotates, logic, BIT and compares (43_shift_logic_compare.md)
  | aslAccumulator
  | aslZeroPage (zp : Byte)
  | aslZeroPageX (zp : Byte)
  | aslAbsolute (addr : Word)
  | aslAbsoluteX (addr : Word)
  | lsrAccumulator
  | lsrZeroPage (zp : Byte)
  | lsrZeroPageX (zp : Byte)
  | lsrAbsolute (addr : Word)
  | lsrAbsoluteX (addr : Word)
  | rolAccumulator
  | rolZeroPage (zp : Byte)
  | rolZeroPageX (zp : Byte)
  | rolAbsolute (addr : Word)
  | rolAbsoluteX (addr : Word)
  | rorAccumulator
  | rorZeroPage (zp : Byte)
  | rorZeroPageX (zp : Byte)
  | rorAbsolute (addr : Word)
  | rorAbsoluteX (addr : Word)
  | andImmediate (imm : Byte)
  | andZeroPage (zp : Byte)
  | andZeroPageX (zp : Byte)
  | andAbsolute (addr : Word)
  | andAbsoluteX (addr : Word)
  | andAbsoluteY (addr : Word)
  | andIndexedIndirect (zp : Byte)
  | andIndirectIndexed (zp : Byte)
  | oraImmediate (imm : Byte)
  | oraZeroPage (zp : Byte)
  | oraZeroPageX (zp : Byte)
  | oraAbsolute (addr : Word)
  | oraAbsoluteX (addr : Word)
  | oraAbsoluteY (addr : Word)
  | oraIndexedIndirect (zp : Byte)
  | oraIndirectIndexed (zp : Byte)
  | eorImmediate (imm : Byte)
  | eorZeroPage (zp : Byte)
  | eorZeroPageX (zp : Byte)
  | eorAbsolute (addr : Word)
  | eorAbsoluteX (addr : Word)
  | eorAbsoluteY (addr : Word)
  | eorIndexedIndirect (zp : Byte)
  | eorIndirectIndexed (zp : Byte)
  | bitZeroPage (zp : Byte)
  | bitAbsolute (addr : Word)
  | cmpImmediate (imm : Byte)
  | cmpZeroPage (zp : Byte)
  | cmpZeroPageX (zp : Byte)
  | cmpAbsolute (addr : Word)
  | cmpAbsoluteX (addr : Word)
  | cmpAbsoluteY (addr : Word)
  | cmpIndexedIndirect (zp : Byte)
  | cmpIndirectIndexed (zp : Byte)
  | cpxImmediate (imm : Byte)
  | cpxZeroPage (zp : Byte)
  | cpxAbsolute (addr : Word)
  | cpyImmediate (imm : Byte)
  | cpyZeroPage (zp : Byte)
  | cpyAbsolute (addr : Word)
  -- Branches, jumps, calls and returns (44_control_transfer.md)
  | bcc (off : Byte)
  | bcs (off : Byte)
  | beq (off : Byte)
  | bne (off : Byte)
  | bpl (off : Byte)
  | bmi (off : Byte)
  | bvc (off : Byte)
  | bvs (off : Byte)
  | jmpAbsolute (addr : Word)
  | jmpIndirect (ptr : Word)
  | jsr (addr : Word)
  | rts
  -- BRK and RTI, stack and flag instructions, NOP (45_interrupt_stack_flags.md)
  | brk
  | rti
  | pha
  | php
  | pla
  | plp
  | clc
  | sec
  | cli
  | sei
  | cld
  | sed
  | clv
  | nop
deriving DecidableEq, Repr

/-- The instruction tag of a row (R81, R83). -/
def Instr.mnemonic : Instr → Mnemonic
  | .ldaImmediate _ | .ldaZeroPage _ | .ldaZeroPageX _ | .ldaAbsolute _ | .ldaAbsoluteX _ | .ldaAbsoluteY _
    | .ldaIndexedIndirect _ | .ldaIndirectIndexed _ => .lda
  | .ldxImmediate _ | .ldxZeroPage _ | .ldxZeroPageY _ | .ldxAbsolute _ | .ldxAbsoluteY _ => .ldx
  | .ldyImmediate _ | .ldyZeroPage _ | .ldyZeroPageX _ | .ldyAbsolute _ | .ldyAbsoluteX _ => .ldy
  | .staZeroPage _ | .staZeroPageX _ | .staAbsolute _ | .staAbsoluteX _ | .staAbsoluteY _
    | .staIndexedIndirect _ | .staIndirectIndexed _ => .sta
  | .stxZeroPage _ | .stxZeroPageY _ | .stxAbsolute _ => .stx
  | .styZeroPage _ | .styZeroPageX _ | .styAbsolute _ => .sty
  | .tax => .tax
  | .txa => .txa
  | .tay => .tay
  | .tya => .tya
  | .txs => .txs
  | .tsx => .tsx
  | .adcImmediate _ | .adcZeroPage _ | .adcZeroPageX _ | .adcAbsolute _ | .adcAbsoluteX _ | .adcAbsoluteY _
    | .adcIndexedIndirect _ | .adcIndirectIndexed _ => .adc
  | .sbcImmediate _ | .sbcZeroPage _ | .sbcZeroPageX _ | .sbcAbsolute _ | .sbcAbsoluteX _ | .sbcAbsoluteY _
    | .sbcIndexedIndirect _ | .sbcIndirectIndexed _ => .sbc
  | .incZeroPage _ | .incZeroPageX _ | .incAbsolute _ | .incAbsoluteX _ => .inc
  | .decZeroPage _ | .decZeroPageX _ | .decAbsolute _ | .decAbsoluteX _ => .dec
  | .inx => .inx
  | .dex => .dex
  | .iny => .iny
  | .dey => .dey
  | .aslAccumulator | .aslZeroPage _ | .aslZeroPageX _ | .aslAbsolute _ | .aslAbsoluteX _ => .asl
  | .lsrAccumulator | .lsrZeroPage _ | .lsrZeroPageX _ | .lsrAbsolute _ | .lsrAbsoluteX _ => .lsr
  | .rolAccumulator | .rolZeroPage _ | .rolZeroPageX _ | .rolAbsolute _ | .rolAbsoluteX _ => .rol
  | .rorAccumulator | .rorZeroPage _ | .rorZeroPageX _ | .rorAbsolute _ | .rorAbsoluteX _ => .ror
  | .andImmediate _ | .andZeroPage _ | .andZeroPageX _ | .andAbsolute _ | .andAbsoluteX _ | .andAbsoluteY _
    | .andIndexedIndirect _ | .andIndirectIndexed _ => .and
  | .oraImmediate _ | .oraZeroPage _ | .oraZeroPageX _ | .oraAbsolute _ | .oraAbsoluteX _ | .oraAbsoluteY _
    | .oraIndexedIndirect _ | .oraIndirectIndexed _ => .ora
  | .eorImmediate _ | .eorZeroPage _ | .eorZeroPageX _ | .eorAbsolute _ | .eorAbsoluteX _ | .eorAbsoluteY _
    | .eorIndexedIndirect _ | .eorIndirectIndexed _ => .eor
  | .bitZeroPage _ | .bitAbsolute _ => .bit
  | .cmpImmediate _ | .cmpZeroPage _ | .cmpZeroPageX _ | .cmpAbsolute _ | .cmpAbsoluteX _ | .cmpAbsoluteY _
    | .cmpIndexedIndirect _ | .cmpIndirectIndexed _ => .cmp
  | .cpxImmediate _ | .cpxZeroPage _ | .cpxAbsolute _ => .cpx
  | .cpyImmediate _ | .cpyZeroPage _ | .cpyAbsolute _ => .cpy
  | .bcc _ => .bcc
  | .bcs _ => .bcs
  | .beq _ => .beq
  | .bne _ => .bne
  | .bpl _ => .bpl
  | .bmi _ => .bmi
  | .bvc _ => .bvc
  | .bvs _ => .bvs
  | .jmpAbsolute _ | .jmpIndirect _ => .jmp
  | .jsr _ => .jsr
  | .rts => .rts
  | .brk => .brk
  | .rti => .rti
  | .pha => .pha
  | .php => .php
  | .pla => .pla
  | .plp => .plp
  | .clc => .clc
  | .sec => .sec
  | .cli => .cli
  | .sei => .sei
  | .cld => .cld
  | .sed => .sed
  | .clv => .clv
  | .nop => .nop

/-- The operand of a row: its addressing-mode tag and the operand bytes it carries (R81, R83). -/
def Instr.operand : Instr → Operand
  | .aslAccumulator | .lsrAccumulator | .rolAccumulator | .rorAccumulator => .accumulator
  | .ldaImmediate imm | .ldxImmediate imm | .ldyImmediate imm | .adcImmediate imm | .sbcImmediate imm
    | .andImmediate imm | .oraImmediate imm | .eorImmediate imm | .cmpImmediate imm | .cpxImmediate imm
    | .cpyImmediate imm => .immediate imm
  | .ldaZeroPage zp | .ldxZeroPage zp | .ldyZeroPage zp | .staZeroPage zp | .stxZeroPage zp | .styZeroPage zp
    | .adcZeroPage zp | .sbcZeroPage zp | .incZeroPage zp | .decZeroPage zp | .aslZeroPage zp | .lsrZeroPage zp
    | .rolZeroPage zp | .rorZeroPage zp | .andZeroPage zp | .oraZeroPage zp | .eorZeroPage zp | .bitZeroPage zp
    | .cmpZeroPage zp | .cpxZeroPage zp | .cpyZeroPage zp => .zeroPage zp
  | .ldaZeroPageX zp | .ldyZeroPageX zp | .staZeroPageX zp | .styZeroPageX zp | .adcZeroPageX zp
    | .sbcZeroPageX zp | .incZeroPageX zp | .decZeroPageX zp | .aslZeroPageX zp | .lsrZeroPageX zp
    | .rolZeroPageX zp | .rorZeroPageX zp | .andZeroPageX zp | .oraZeroPageX zp | .eorZeroPageX zp
    | .cmpZeroPageX zp => .zeroPageX zp
  | .ldxZeroPageY zp | .stxZeroPageY zp => .zeroPageY zp
  | .ldaAbsolute addr | .ldxAbsolute addr | .ldyAbsolute addr | .staAbsolute addr | .stxAbsolute addr
    | .styAbsolute addr | .adcAbsolute addr | .sbcAbsolute addr | .incAbsolute addr | .decAbsolute addr
    | .aslAbsolute addr | .lsrAbsolute addr | .rolAbsolute addr | .rorAbsolute addr | .andAbsolute addr
    | .oraAbsolute addr | .eorAbsolute addr | .bitAbsolute addr | .cmpAbsolute addr | .cpxAbsolute addr
    | .cpyAbsolute addr | .jmpAbsolute addr | .jsr addr => .absolute addr
  | .ldaAbsoluteX addr | .ldyAbsoluteX addr | .staAbsoluteX addr | .adcAbsoluteX addr | .sbcAbsoluteX addr
    | .incAbsoluteX addr | .decAbsoluteX addr | .aslAbsoluteX addr | .lsrAbsoluteX addr | .rolAbsoluteX addr
    | .rorAbsoluteX addr | .andAbsoluteX addr | .oraAbsoluteX addr | .eorAbsoluteX addr
    | .cmpAbsoluteX addr => .absoluteX addr
  | .ldaAbsoluteY addr | .ldxAbsoluteY addr | .staAbsoluteY addr | .adcAbsoluteY addr | .sbcAbsoluteY addr
    | .andAbsoluteY addr | .oraAbsoluteY addr | .eorAbsoluteY addr | .cmpAbsoluteY addr => .absoluteY addr
  | .jmpIndirect ptr => .indirect ptr
  | .ldaIndexedIndirect zp | .staIndexedIndirect zp | .adcIndexedIndirect zp | .sbcIndexedIndirect zp
    | .andIndexedIndirect zp | .oraIndexedIndirect zp | .eorIndexedIndirect zp
    | .cmpIndexedIndirect zp => .indexedIndirect zp
  | .ldaIndirectIndexed zp | .staIndirectIndexed zp | .adcIndirectIndexed zp | .sbcIndirectIndexed zp
    | .andIndirectIndexed zp | .oraIndirectIndexed zp | .eorIndirectIndexed zp
    | .cmpIndirectIndexed zp => .indirectIndexed zp
  | .bcc off | .bcs off | .beq off | .bne off | .bpl off | .bmi off | .bvc off | .bvs off => .relative off
  | .tax | .txa | .tay | .tya | .txs | .tsx | .inx | .dex | .iny | .dey | .rts | .brk | .rti | .pha | .php
    | .pla | .plp | .clc | .sec | .cli | .sei | .cld | .sed | .clv | .nop => .implicit

/-- The addressing mode of an instruction. -/
def Instr.mode (i : Instr) : Mode := i.operand.mode

/-- The length of an instruction in bytes, `1 + nbytes(mode)` (R82). -/
def Instr.length (i : Instr) : Nat := 1 + i.mode.nbytes

end Sys2Proof
end

