-- ==== Sys2Proof/Decode.lean ====
section
/-! DEFINITION. The opcode table, the decoder (total on any bytes, rejecting by name) and the encoder (30_encoding.md). -/

namespace Sys2Proof

open Machine (join lo hi byteOf)

/-- Why bytes are no instruction. -/
inductive DecodeError where
  /-- R85: the byte has no opcode-table entry. -/
  | invalidOpcode (byte : Byte)
  /-- The bytes end before the instruction does (R80); memory always has the next byte, so a Step never meets this. -/
  | truncated
deriving DecidableEq, Repr

/-- A table entry by its format (R80): what the operand bytes make of it. -/
inductive Entry where
  /-- F0: no operand byte. -/
  | f0 (i : Instr)
  /-- F1: one operand byte. -/
  | f1 (mk : Byte → Instr)
  /-- F2: an address, low byte first. -/
  | f2 (mk : Word → Instr)

/-! The opcode map of R83, one list for each row of its grid (the high nibble).
PRESUMED (entry 13): the spec takes all bytes but 0xA9 and 0x8D from general knowledge (D12). -/

/-- Row 0 of the grid of R83. -/
def opcodeRow0 : List (Byte × Entry) := [
  (0x00, .f0 .brk), (0x01, .f1 .oraIndexedIndirect), (0x05, .f1 .oraZeroPage), (0x06, .f1 .aslZeroPage),
    (0x08, .f0 .php), (0x09, .f1 .oraImmediate), (0x0A, .f0 .aslAccumulator), (0x0D, .f2 .oraAbsolute),
    (0x0E, .f2 .aslAbsolute)]

/-- Row 1 of the grid of R83. -/
def opcodeRow1 : List (Byte × Entry) := [
  (0x10, .f1 .bpl), (0x11, .f1 .oraIndirectIndexed), (0x15, .f1 .oraZeroPageX), (0x16, .f1 .aslZeroPageX),
    (0x18, .f0 .clc), (0x19, .f2 .oraAbsoluteY), (0x1D, .f2 .oraAbsoluteX), (0x1E, .f2 .aslAbsoluteX)]

/-- Row 2 of the grid of R83. -/
def opcodeRow2 : List (Byte × Entry) := [
  (0x20, .f2 .jsr), (0x21, .f1 .andIndexedIndirect), (0x24, .f1 .bitZeroPage), (0x25, .f1 .andZeroPage),
    (0x26, .f1 .rolZeroPage), (0x28, .f0 .plp), (0x29, .f1 .andImmediate), (0x2A, .f0 .rolAccumulator),
    (0x2C, .f2 .bitAbsolute), (0x2D, .f2 .andAbsolute), (0x2E, .f2 .rolAbsolute)]

/-- Row 3 of the grid of R83. -/
def opcodeRow3 : List (Byte × Entry) := [
  (0x30, .f1 .bmi), (0x31, .f1 .andIndirectIndexed), (0x35, .f1 .andZeroPageX), (0x36, .f1 .rolZeroPageX),
    (0x38, .f0 .sec), (0x39, .f2 .andAbsoluteY), (0x3D, .f2 .andAbsoluteX), (0x3E, .f2 .rolAbsoluteX)]

/-- Row 4 of the grid of R83. -/
def opcodeRow4 : List (Byte × Entry) := [
  (0x40, .f0 .rti), (0x41, .f1 .eorIndexedIndirect), (0x45, .f1 .eorZeroPage), (0x46, .f1 .lsrZeroPage),
    (0x48, .f0 .pha), (0x49, .f1 .eorImmediate), (0x4A, .f0 .lsrAccumulator), (0x4C, .f2 .jmpAbsolute),
    (0x4D, .f2 .eorAbsolute), (0x4E, .f2 .lsrAbsolute)]

/-- Row 5 of the grid of R83. -/
def opcodeRow5 : List (Byte × Entry) := [
  (0x50, .f1 .bvc), (0x51, .f1 .eorIndirectIndexed), (0x55, .f1 .eorZeroPageX), (0x56, .f1 .lsrZeroPageX),
    (0x58, .f0 .cli), (0x59, .f2 .eorAbsoluteY), (0x5D, .f2 .eorAbsoluteX), (0x5E, .f2 .lsrAbsoluteX)]

/-- Row 6 of the grid of R83. -/
def opcodeRow6 : List (Byte × Entry) := [
  (0x60, .f0 .rts), (0x61, .f1 .adcIndexedIndirect), (0x65, .f1 .adcZeroPage), (0x66, .f1 .rorZeroPage),
    (0x68, .f0 .pla), (0x69, .f1 .adcImmediate), (0x6A, .f0 .rorAccumulator), (0x6C, .f2 .jmpIndirect),
    (0x6D, .f2 .adcAbsolute), (0x6E, .f2 .rorAbsolute)]

/-- Row 7 of the grid of R83. -/
def opcodeRow7 : List (Byte × Entry) := [
  (0x70, .f1 .bvs), (0x71, .f1 .adcIndirectIndexed), (0x75, .f1 .adcZeroPageX), (0x76, .f1 .rorZeroPageX),
    (0x78, .f0 .sei), (0x79, .f2 .adcAbsoluteY), (0x7D, .f2 .adcAbsoluteX), (0x7E, .f2 .rorAbsoluteX)]

/-- Row 8 of the grid of R83. -/
def opcodeRow8 : List (Byte × Entry) := [
  (0x81, .f1 .staIndexedIndirect), (0x84, .f1 .styZeroPage), (0x85, .f1 .staZeroPage),
    (0x86, .f1 .stxZeroPage), (0x88, .f0 .dey), (0x8A, .f0 .txa), (0x8C, .f2 .styAbsolute),
    (0x8D, .f2 .staAbsolute), (0x8E, .f2 .stxAbsolute)]

/-- Row 9 of the grid of R83. -/
def opcodeRow9 : List (Byte × Entry) := [
  (0x90, .f1 .bcc), (0x91, .f1 .staIndirectIndexed), (0x94, .f1 .styZeroPageX), (0x95, .f1 .staZeroPageX),
    (0x96, .f1 .stxZeroPageY), (0x98, .f0 .tya), (0x99, .f2 .staAbsoluteY), (0x9A, .f0 .txs),
    (0x9D, .f2 .staAbsoluteX)]

/-- Row A of the grid of R83. -/
def opcodeRowA : List (Byte × Entry) := [
  (0xA0, .f1 .ldyImmediate), (0xA1, .f1 .ldaIndexedIndirect), (0xA2, .f1 .ldxImmediate),
    (0xA4, .f1 .ldyZeroPage), (0xA5, .f1 .ldaZeroPage), (0xA6, .f1 .ldxZeroPage), (0xA8, .f0 .tay),
    (0xA9, .f1 .ldaImmediate), (0xAA, .f0 .tax), (0xAC, .f2 .ldyAbsolute), (0xAD, .f2 .ldaAbsolute),
    (0xAE, .f2 .ldxAbsolute)]

/-- Row B of the grid of R83. -/
def opcodeRowB : List (Byte × Entry) := [
  (0xB0, .f1 .bcs), (0xB1, .f1 .ldaIndirectIndexed), (0xB4, .f1 .ldyZeroPageX), (0xB5, .f1 .ldaZeroPageX),
    (0xB6, .f1 .ldxZeroPageY), (0xB8, .f0 .clv), (0xB9, .f2 .ldaAbsoluteY), (0xBA, .f0 .tsx),
    (0xBC, .f2 .ldyAbsoluteX), (0xBD, .f2 .ldaAbsoluteX), (0xBE, .f2 .ldxAbsoluteY)]

/-- Row C of the grid of R83. -/
def opcodeRowC : List (Byte × Entry) := [
  (0xC0, .f1 .cpyImmediate), (0xC1, .f1 .cmpIndexedIndirect), (0xC4, .f1 .cpyZeroPage),
    (0xC5, .f1 .cmpZeroPage), (0xC6, .f1 .decZeroPage), (0xC8, .f0 .iny), (0xC9, .f1 .cmpImmediate),
    (0xCA, .f0 .dex), (0xCC, .f2 .cpyAbsolute), (0xCD, .f2 .cmpAbsolute), (0xCE, .f2 .decAbsolute)]

/-- Row D of the grid of R83. -/
def opcodeRowD : List (Byte × Entry) := [
  (0xD0, .f1 .bne), (0xD1, .f1 .cmpIndirectIndexed), (0xD5, .f1 .cmpZeroPageX), (0xD6, .f1 .decZeroPageX),
    (0xD8, .f0 .cld), (0xD9, .f2 .cmpAbsoluteY), (0xDD, .f2 .cmpAbsoluteX), (0xDE, .f2 .decAbsoluteX)]

/-- Row E of the grid of R83. -/
def opcodeRowE : List (Byte × Entry) := [
  (0xE0, .f1 .cpxImmediate), (0xE1, .f1 .sbcIndexedIndirect), (0xE4, .f1 .cpxZeroPage),
    (0xE5, .f1 .sbcZeroPage), (0xE6, .f1 .incZeroPage), (0xE8, .f0 .inx), (0xE9, .f1 .sbcImmediate),
    (0xEA, .f0 .nop), (0xEC, .f2 .cpxAbsolute), (0xED, .f2 .sbcAbsolute), (0xEE, .f2 .incAbsolute)]

/-- Row F of the grid of R83. -/
def opcodeRowF : List (Byte × Entry) := [
  (0xF0, .f1 .beq), (0xF1, .f1 .sbcIndirectIndexed), (0xF5, .f1 .sbcZeroPageX), (0xF6, .f1 .incZeroPageX),
    (0xF8, .f0 .sed), (0xF9, .f2 .sbcAbsoluteY), (0xFD, .f2 .sbcAbsoluteX), (0xFE, .f2 .incAbsoluteX)]

/-- The opcode table: 151 entries (R83). -/
def opcodeTable : List (Byte × Entry) :=
  opcodeRow0 ++ opcodeRow1 ++ opcodeRow2 ++ opcodeRow3 ++ opcodeRow4 ++ opcodeRow5 ++ opcodeRow6 ++ opcodeRow7 ++
  opcodeRow8 ++ opcodeRow9 ++ opcodeRowA ++ opcodeRowB ++ opcodeRowC ++ opcodeRowD ++ opcodeRowE ++ opcodeRowF

/-- The entry of an opcode byte, decoded as one field with no sub-fields (R81). -/
def lookupOpcode (b : Byte) : Option Entry := opcodeTable.lookup b

/-- The operand bytes of an entry's format (R80). -/
def Entry.operandBytes : Entry → Nat
  | .f0 _ => 0
  | .f1 _ => 1
  | .f2 _ => 2

/-- The operand-byte count of an opcode, the parallel mapping disassemblers and loaders use (R84, D13; entry 13). -/
def operandCount (b : Byte) : Option Nat := (lookupOpcode b).map Entry.operandBytes

/-- An entry's instruction and the bytes after it. -/
def Entry.decode : Entry → List Byte → Except DecodeError (Instr × List Byte)
  | .f0 i, rest => .ok (i, rest)
  | .f1 mk, o :: rest => .ok (mk o, rest)
  | .f1 _, [] => .error .truncated
  | .f2 mk, l :: h :: rest => .ok (mk (join h l), rest)
  | .f2 _, [_] => .error .truncated
  | .f2 _, [] => .error .truncated

/-- The first instruction of a list of bytes and the bytes after it (R80, R82, R85). -/
def decode : List Byte → Except DecodeError (Instr × List Byte)
  | [] => .error .truncated
  | b :: rest =>
    match lookupOpcode b with
    | none => .error (.invalidOpcode b)
    | some e => e.decode rest

/-- The opcode byte of an instruction, from the second table of R83 (by instruction). -/
def Instr.opcode : Instr → Byte
  | .ldaImmediate _ => 0xA9 | .ldaZeroPage _ => 0xA5 | .ldaZeroPageX _ => 0xB5 | .ldaAbsolute _ => 0xAD
    | .ldaAbsoluteX _ => 0xBD | .ldaAbsoluteY _ => 0xB9 | .ldaIndexedIndirect _ => 0xA1
    | .ldaIndirectIndexed _ => 0xB1
  | .ldxImmediate _ => 0xA2 | .ldxZeroPage _ => 0xA6 | .ldxZeroPageY _ => 0xB6 | .ldxAbsolute _ => 0xAE
    | .ldxAbsoluteY _ => 0xBE
  | .ldyImmediate _ => 0xA0 | .ldyZeroPage _ => 0xA4 | .ldyZeroPageX _ => 0xB4 | .ldyAbsolute _ => 0xAC
    | .ldyAbsoluteX _ => 0xBC
  | .staZeroPage _ => 0x85 | .staZeroPageX _ => 0x95 | .staAbsolute _ => 0x8D | .staAbsoluteX _ => 0x9D
    | .staAbsoluteY _ => 0x99 | .staIndexedIndirect _ => 0x81 | .staIndirectIndexed _ => 0x91
  | .stxZeroPage _ => 0x86 | .stxZeroPageY _ => 0x96 | .stxAbsolute _ => 0x8E
  | .styZeroPage _ => 0x84 | .styZeroPageX _ => 0x94 | .styAbsolute _ => 0x8C
  | .tax => 0xAA
  | .txa => 0x8A
  | .tay => 0xA8
  | .tya => 0x98
  | .txs => 0x9A
  | .tsx => 0xBA
  | .adcImmediate _ => 0x69 | .adcZeroPage _ => 0x65 | .adcZeroPageX _ => 0x75 | .adcAbsolute _ => 0x6D
    | .adcAbsoluteX _ => 0x7D | .adcAbsoluteY _ => 0x79 | .adcIndexedIndirect _ => 0x61
    | .adcIndirectIndexed _ => 0x71
  | .sbcImmediate _ => 0xE9 | .sbcZeroPage _ => 0xE5 | .sbcZeroPageX _ => 0xF5 | .sbcAbsolute _ => 0xED
    | .sbcAbsoluteX _ => 0xFD | .sbcAbsoluteY _ => 0xF9 | .sbcIndexedIndirect _ => 0xE1
    | .sbcIndirectIndexed _ => 0xF1
  | .incZeroPage _ => 0xE6 | .incZeroPageX _ => 0xF6 | .incAbsolute _ => 0xEE | .incAbsoluteX _ => 0xFE
  | .decZeroPage _ => 0xC6 | .decZeroPageX _ => 0xD6 | .decAbsolute _ => 0xCE | .decAbsoluteX _ => 0xDE
  | .inx => 0xE8
  | .dex => 0xCA
  | .iny => 0xC8
  | .dey => 0x88
  | .aslAccumulator => 0x0A | .aslZeroPage _ => 0x06 | .aslZeroPageX _ => 0x16 | .aslAbsolute _ => 0x0E
    | .aslAbsoluteX _ => 0x1E
  | .lsrAccumulator => 0x4A | .lsrZeroPage _ => 0x46 | .lsrZeroPageX _ => 0x56 | .lsrAbsolute _ => 0x4E
    | .lsrAbsoluteX _ => 0x5E
  | .rolAccumulator => 0x2A | .rolZeroPage _ => 0x26 | .rolZeroPageX _ => 0x36 | .rolAbsolute _ => 0x2E
    | .rolAbsoluteX _ => 0x3E
  | .rorAccumulator => 0x6A | .rorZeroPage _ => 0x66 | .rorZeroPageX _ => 0x76 | .rorAbsolute _ => 0x6E
    | .rorAbsoluteX _ => 0x7E
  | .andImmediate _ => 0x29 | .andZeroPage _ => 0x25 | .andZeroPageX _ => 0x35 | .andAbsolute _ => 0x2D
    | .andAbsoluteX _ => 0x3D | .andAbsoluteY _ => 0x39 | .andIndexedIndirect _ => 0x21
    | .andIndirectIndexed _ => 0x31
  | .oraImmediate _ => 0x09 | .oraZeroPage _ => 0x05 | .oraZeroPageX _ => 0x15 | .oraAbsolute _ => 0x0D
    | .oraAbsoluteX _ => 0x1D | .oraAbsoluteY _ => 0x19 | .oraIndexedIndirect _ => 0x01
    | .oraIndirectIndexed _ => 0x11
  | .eorImmediate _ => 0x49 | .eorZeroPage _ => 0x45 | .eorZeroPageX _ => 0x55 | .eorAbsolute _ => 0x4D
    | .eorAbsoluteX _ => 0x5D | .eorAbsoluteY _ => 0x59 | .eorIndexedIndirect _ => 0x41
    | .eorIndirectIndexed _ => 0x51
  | .bitZeroPage _ => 0x24 | .bitAbsolute _ => 0x2C
  | .cmpImmediate _ => 0xC9 | .cmpZeroPage _ => 0xC5 | .cmpZeroPageX _ => 0xD5 | .cmpAbsolute _ => 0xCD
    | .cmpAbsoluteX _ => 0xDD | .cmpAbsoluteY _ => 0xD9 | .cmpIndexedIndirect _ => 0xC1
    | .cmpIndirectIndexed _ => 0xD1
  | .cpxImmediate _ => 0xE0 | .cpxZeroPage _ => 0xE4 | .cpxAbsolute _ => 0xEC
  | .cpyImmediate _ => 0xC0 | .cpyZeroPage _ => 0xC4 | .cpyAbsolute _ => 0xCC
  | .bcc _ => 0x90
  | .bcs _ => 0xB0
  | .beq _ => 0xF0
  | .bne _ => 0xD0
  | .bpl _ => 0x10
  | .bmi _ => 0x30
  | .bvc _ => 0x50
  | .bvs _ => 0x70
  | .jmpAbsolute _ => 0x4C | .jmpIndirect _ => 0x6C
  | .jsr _ => 0x20
  | .rts => 0x60
  | .brk => 0x00
  | .rti => 0x40
  | .pha => 0x48
  | .php => 0x08
  | .pla => 0x68
  | .plp => 0x28
  | .clc => 0x18
  | .sec => 0x38
  | .cli => 0x58
  | .sei => 0x78
  | .cld => 0xD8
  | .sed => 0xF8
  | .clv => 0xB8
  | .nop => 0xEA

/-- The operand bytes of an operand, low byte first (R80, R87). -/
def Operand.bytes : Operand → List Byte
  | .implicit | .accumulator => []
  | .immediate b | .zeroPage b | .zeroPageX b | .zeroPageY b | .indexedIndirect b | .indirectIndexed b
    | .relative b => [b]
  | .absolute w | .absoluteX w | .absoluteY w | .indirect w => [lo w, hi w]

/-- The bytes of an instruction (R80). -/
def encode (i : Instr) : List Byte := i.opcode :: i.operand.bytes

/-- The instruction the decoder reads from `nbits` bits numbered with the first byte lowest; the bits above are 0. -/
def decodeTableWord (nbits w : Nat) : Option Instr :=
  let v := w % 2 ^ nbits
  match decode [byteOf v 0, byteOf v 1, byteOf v 2] with
  | .ok (i, _) => some i
  | .error _ => none

end Sys2Proof
end

