-- ==== Sys2Proof/Config.lean ====
section
/-! DEFINITION. What is fixed for one core: the open parameters of R10 as plain data, and the constants of R11. -/

namespace Sys2Proof

/-- Where the high byte of a zero-page pointer at 0xFF is read: the parameter `ZP_PTR_WRAP` (R10, R109), left OPEN by D2. -/
inductive ZpPtrWrap where
  /-- The literal `zp + 1` on a 16-bit address: 0x0100. -/
  | linear
  /-- Inside page zero: 0x0000. -/
  | page0
deriving DecidableEq, Repr

/-- The parameters of R10 that instructions consult.
`State` holds one, no call changes it, and a statement about every state holds for every value of it. -/
structure Config where
  /-- `ZP_PTR_WRAP` (R109, D2). -/
  zpPtrWrap : ZpPtrWrap
  /-- `PLA_SETS_ZN` (R215, D4). -/
  plaSetsZN : Bool
deriving DecidableEq, Repr

namespace Config

/-- The values the spec's own vectors take for the open parameters (95_test_vectors.md section 1).
DESIGN CHOICE (entries 4 and 5), unsafe: only `State.reset` holds it, and no statement rests on it. -/
def vectorDefaults : Config := ⟨.linear, true⟩

/-- `SP_INIT` of `State.reset` (R10, R27; "0xFF is typical").
DESIGN CHOICE (entry 2), unsafe: the spec leaves the value open (D6), and no statement rests on it. -/
def spInit : Byte := 0xFF

/-- The first address of the write-protected range [0x8000, 0xFFFF] (R11, C2). -/
def romBase : Word := 0x8000

/-- The page of the stack, 0x0100..0x01FF (R11). -/
def stackPage : Word := 0x0100

/-- Where the NMI vector lies (R11). -/
def nmiVector : Word := 0xFFFA

/-- Where the reset vector lies (R11). -/
def resetVector : Word := 0xFFFC

/-- Where the BRK vector lies (R11). -/
def brkVector : Word := 0xFFFE

/-- The bits PHP and BRK force to 1 in the byte they push: 0b00110000 (R11). -/
def pushMask : Byte := 0x30

/-- The bits RTI and PLP take from the pulled byte: 0b11001111 (R11). -/
def restoreMask : Byte := 0xCF

end Config

end Sys2Proof
end

