-- ==== Sys2Proof/Machine/Flags.lean ====
section
/-! DEFINITION. The flags of the status byte (R23) and every flag computation of the instructions, on plain bytes. -/

namespace Sys2Proof.Machine

/-- The seven named flags (R23, R243); bit 5 has no name and no accessor. -/
inductive Flag where
  | n | v | b | d | i | z | c
deriving DecidableEq, Repr

/-- The bit of `Status` a flag is (R23). -/
def Flag.bit : Flag → Nat
  | .n => 7
  | .v => 6
  | .b => 4
  | .d => 3
  | .i => 2
  | .z => 1
  | .c => 0

/-- The host's character for a flag, exact and case-sensitive (R243, R244, D23; entry 19). -/
def Flag.ofChar (ch : Char) : Option Flag :=
  if ch = 'N' then some .n
  else if ch = 'V' then some .v
  else if ch = 'B' then some .b
  else if ch = 'D' then some .d
  else if ch = 'I' then some .i
  else if ch = 'Z' then some .z
  else if ch = 'C' then some .c
  else none

/-- One flag of a status byte. -/
def getFlag (f : Flag) (p : Byte) : Bool := p.getLsbD f.bit

/-- Bit 5 of a status byte, which has no name (R23). -/
def unusedBit (p : Byte) : Bool := p.getLsbD 5

/-- A status byte with one flag written and every other bit kept (R23, R244). -/
def putFlag (f : Flag) (b : Bool) (p : Byte) : Byte :=
  if b then p ||| (1#8 <<< f.bit) else p &&& ~~~(1#8 <<< f.bit)

/-- Bit 7 of a byte, the value of N for a result (R31). -/
def negative (v : Byte) : Bool := v.getLsbD 7

/-- `SetZN(v)` (R31): Z and N from an 8-bit result. -/
def putZN (v p : Byte) : Byte := putFlag .n (negative v) (putFlag .z (v == 0) p)

/-- A carry as a number. -/
def carryNat (c : Bool) : Nat := if c then 1 else 0

/-- The unbounded sum of ADC, 0..511 (R150). -/
def addWide (a v : Byte) (c : Bool) : Nat := a.toNat + v.toNat + carryNat c

/-- The V formula of R150 for a result `r` of operands `a` and `v`: `((r ^ a) & (r ^ v) & 0x80) != 0`. -/
def overflow (a v r : Byte) : Bool := (r ^^^ a) &&& (r ^^^ v) &&& 0x80 != 0

/-- AC after ADC: the sum truncated to 8 bits (R150). -/
def adcResult (a v : Byte) (c : Bool) : Byte := trunc8 (addWide a v c)

/-- The status byte after ADC (R150): C, V, then Z and N of the result. -/
def adcStatus (a v p : Byte) : Byte :=
  let c := getFlag .c p
  let r := adcResult a v c
  putZN r (putFlag .v (overflow a v r) (putFlag .c (decide (addWide a v c > 255)) p))

/-- The unbounded difference of SBC, -256..255: `AC - value - (1 - C)` (R151, D22; entry 15). -/
def subWide (a v : Byte) (c : Bool) : Int := (a.toNat : Int) - (v.toNat : Int) - (1 - (carryNat c : Int))

/-- AC after SBC: `AC + (~value) + C` truncated to 8 bits (R151). -/
def sbcResult (a v : Byte) (c : Bool) : Byte := trunc8 (addWide a (v ^^^ 0xFF) c)

/-- The status byte after SBC (R151): C from the sign of the difference, V with `~value`, then Z and N. -/
def sbcStatus (a v p : Byte) : Byte :=
  let c := getFlag .c p
  let r := sbcResult a v c
  putZN r (putFlag .v (overflow a (v ^^^ 0xFF) r) (putFlag .c (!decide (subWide a v c < 0)) p))

/-- The status byte after a compare (R179): C is unsigned `>=`, Z equality, N bit 7 of the 8-bit difference. -/
def compareStatus (r v p : Byte) : Byte :=
  putFlag .n (negative (r - v)) (putFlag .z (r == v) (putFlag .c (decide (v.toNat ≤ r.toNat)) p))

/-- The status byte after BIT (R178): Z from `AC & value`, V and N bits 6 and 7 of the value. -/
def bitStatus (a v p : Byte) : Byte :=
  putFlag .n (v.getLsbD 7) (putFlag .v (v.getLsbD 6) (putFlag .z (a &&& v == 0) p))

/-- The status byte after a shift or rotate with this bit shifted out and this result (R170). -/
def shiftStatus (out : Bool) (r p : Byte) : Byte := putZN r (putFlag .c out p)

/-- The result of ASL (R171). -/
def aslResult (v : Byte) : Byte := v <<< 1

/-- The result of LSR (R172). -/
def lsrResult (v : Byte) : Byte := v >>> 1

/-- The result of ROL: the old carry enters bit 0 (R173). -/
def rolResult (v : Byte) (c : Bool) : Byte := (v <<< 1) ||| trunc8 (carryNat c)

/-- The result of ROR: the old carry enters bit 7 (R174). -/
def rorResult (v : Byte) (c : Bool) : Byte := (v >>> 1) ||| (trunc8 (carryNat c) <<< 7)

/-- The status byte PHP and BRK push: bits 5 and 4 forced to 1 in the pushed byte only (R210, R214). -/
def pushedStatus (p : Byte) : Byte := p ||| Config.pushMask

/-- The status byte PLP leaves: B and bit 5 kept from the current one, the rest from the pulled byte (R216). -/
def plpStatus (pulled p : Byte) : Byte := (pulled &&& Config.restoreMask) ||| (p &&& Config.pushMask)

/-- The status byte RTI leaves: the pulled byte with B and bit 5 cleared (R211, C1; entry 16). -/
def rtiStatus (pulled : Byte) : Byte := pulled &&& Config.restoreMask

end Sys2Proof.Machine
end

