-- ==== Sys2Proof/Machine/State.lean ====
section
/-! DEFINITION. The state of the core as plain data, why a call can stop, and the state after reset. -/

namespace Sys2Proof.Machine

/-- The errors of the core: a host call that ends with an error (00_scope.md section 6). -/
inductive Fault where
  /-- R240: `Step` fetched a byte with no opcode-table entry, at this PC.
  Raised by `step`; safe: the spec itself ends the run here (R241). -/
  | invalidOpcode (byte : Byte) (pc : Word)
  /-- R243: a flag accessor was called with a character that names no flag.
  Raised by `hostGetFlag` and `hostSetFlag`; safe: the spec says so. -/
  | invalidFlag (ch : Char)
deriving DecidableEq, Repr

/-- The calls the spec gives no meaning: the call takes no step and changes nothing. -/
inductive Refusal where
  /-- An instruction that has no meaning in this model, by its mnemonic. Raised by no arm of `exec`; safe. -/
  | notModelled (mnemonic : String)
  /-- R270, D9: `Step` or `NMI` before the first `Reset`. Raised by `step` and `nmi`; safe (entry 10). -/
  | beforeReset
  /-- R241, D8: `Step` or `NMI` after a recorded error. Raised by `step` and `nmi`; safe (entry 9). -/
  | faulted (f : Fault)
  /-- R57, R255, D17: a loader's write after the first `Reset` or below 0x8000. Raised by `hostLoad`; safe (entry 18). -/
  | loaderClosed (addr : Word)
deriving DecidableEq, Repr

/-- The 64 KiB memory (R50): the listed bytes, every other byte reading as `Memory.unlisted`. -/
abbrev Memory := List Host.Cell

/-- What a byte that the list does not hold reads as.
DESIGN CHOICE (entry 1), unsafe: the spec leaves `RAM_INIT` and `ROM_IMAGE` open (R57, D7). -/
def Memory.unlisted : Byte := 0x00

/-- The canonical form from a lowest permitted address on. -/
def Memory.wfFrom : Nat → Memory → Bool
  | _, [] => true
  | low, c :: m => decide (low ≤ c.1) && decide (c.1 < 65536) && (c.2 != Memory.unlisted) && Memory.wfFrom (c.1 + 1) m

/-- The canonical form: addresses strictly rising and 16 bits wide (R9), no entry equal to an unlisted byte. -/
def Memory.wf (m : Memory) : Bool := Memory.wfFrom 0 m

/-- Everything the spec gives the core: the registers of R20, the memory of R50, the two hidden pieces of R38
and the parameters of R10. -/
structure State where
  /-- AC, the accumulator (R20, R21). -/
  ac : Byte
  /-- X, an index register (R20, R21). -/
  x : Byte
  /-- Y, an index register (R20, R21). -/
  y : Byte
  /-- SP, the low byte of the next free stack slot (R27). -/
  sp : Byte
  /-- PC, the address of the next instruction (R28). -/
  pc : Word
  /-- Status: N V unused B D I Z C from bit 7 down, all eight stored (R23, R24). -/
  status : Byte
  /-- The memory (R50). -/
  mem : Memory
  /-- `reset_done` (R38): whether the first `Reset` has run. -/
  resetDone : Bool
  /-- `fault` (R38): the error that ended the run. -/
  fault : Option Fault
  /-- The parameters of R10; no call changes them. -/
  config : Config
deriving DecidableEq, Repr

/-- The launch state of R272 for `SP_INIT` 0xFF and a memory with nothing listed: the state after construction and the
first `Reset`. PC is the word at the reset vector of that memory (entry 3). -/
def State.reset : State where
  ac := 0x00
  x := 0x00
  y := 0x00
  sp := Config.spInit
  pc := 0x0000
  status := 0x00
  mem := []
  resetDone := true
  fault := none
  config := Config.vectorDefaults

end Sys2Proof.Machine
end

