-- ==== Sys2Proof/Machine/Ops.lean ====
section
/-! DEFINITION. The named operations over registers, memory and stack, and the entry to and return from an interrupt. -/

namespace Sys2Proof.Machine

/-- What a host call answers. -/
abbrev Result := Host.Outcome State Fault Refusal

/-! ## Registers (R20: no register is hardwired, banked or aliased) -/

/-- `AC <- v`. -/
def State.setAC (s : State) (v : Byte) : State := { s with ac := v }

/-- `X <- v`. -/
def State.setX (s : State) (v : Byte) : State := { s with x := v }

/-- `Y <- v`. -/
def State.setY (s : State) (v : Byte) : State := { s with y := v }

/-- `SP <- v`. -/
def State.setSP (s : State) (v : Byte) : State := { s with sp := v }

/-- `PC <- w`. -/
def State.setPC (s : State) (w : Word) : State := { s with pc := w }

/-- `Status <- p`, the whole byte. -/
def State.setStatus (s : State) (p : Byte) : State := { s with status := p }

/-- The memory replaced. -/
def State.setMem (s : State) (m : Memory) : State := { s with mem := m }

/-- `reset_done <- b` (R271). -/
def State.setResetDone (s : State) (b : Bool) : State := { s with resetDone := b }

/-- `fault <- f` (R241). -/
def State.setFault (s : State) (f : Option Fault) : State := { s with fault := f }

/-- One flag of `Status`, as `Status.N` in the spec. -/
def State.flag (s : State) (f : Flag) : Bool := getFlag f s.status

/-- `Status.f <- b`: one flag written, the other seven bits kept (R23). -/
def State.setFlag (s : State) (f : Flag) (b : Bool) : State := s.setStatus (putFlag f b s.status)

/-- `SetZN(v)` (R31). -/
def State.setZN (s : State) (v : Byte) : State := s.setStatus (putZN v s.status)

/-! ## Memory (20_memory.md) -/

/-- The byte a memory holds at an address. -/
def Memory.read : Memory → Nat → Byte
  | [], _ => Memory.unlisted
  | c :: m, a => if c.1 = a then c.2 else Memory.read m a

/-- A memory with no entry at an address. -/
def Memory.erase (m : Memory) (a : Nat) : Memory := m.filter (fun c => c.1 != a)

/-- An entry put before the first greater address. -/
def Memory.insert (a : Nat) (v : Byte) : Memory → Memory
  | [] => [(a, v)]
  | c :: m => if a < c.1 then (a, v) :: c :: m else c :: Memory.insert a v m

/-- One byte written, in canonical form: writing what an unlisted byte reads as removes the entry. -/
def Memory.write (m : Memory) (a : Nat) (v : Byte) : Memory :=
  if v = Memory.unlisted then Memory.erase m a else Memory.insert a v (Memory.erase m a)

/-- `MemRead(addr, 1)` (R52): every address is readable, with no side effect. -/
def memRead (a : Word) (s : State) : Byte := Memory.read s.mem a.toNat

/-- A byte written past the write guard, as the loader writes (R57). -/
def memLoad (a : Word) (v : Byte) (s : State) : State := s.setMem (Memory.write s.mem a.toNat v)

/-- Whether the write guard drops a write to this address: [0x8000, 0xFFFF] (R53, C2). -/
def guarded (a : Word) : Bool := decide (Config.romBase.toNat ≤ a.toNat)

/-- `MemWrite(addr, 1, v)` (R53): a write to [0x8000, 0xFFFF] is silently dropped. -/
def memWrite (a : Word) (v : Byte) (s : State) : State := if guarded a then s else memLoad a v s

/-- `MemRead16(addr)` (R55): low byte at `addr`, high byte at `addr + 1` modulo 65536 (D1; entry 6). -/
def memRead16 (a : Word) (s : State) : Word := join (memRead (a + 1) s) (memRead a s)

/-- Where the high byte of a zero-page pointer is read (R109): the parameter decides only for a pointer at 0xFF. -/
def zpHighAddr (w : ZpPtrWrap) (zp : Byte) : Word :=
  match w with
  | .linear => zext16 zp + 1
  | .page0 => zext16 (zp + 1)

/-- `ZpRead16(zp)` (R109). -/
def zpRead16 (zp : Byte) (s : State) : Word :=
  join (memRead (zpHighAddr s.config.zpPtrWrap zp) s) (memRead (zext16 zp) s)

/-! ## The stack (20_memory.md section 4) -/

/-- The address of a stack slot: `0x0100 | zext_16(SP)` (R27). -/
def stackAddr (sp : Byte) : Word := Config.stackPage ||| zext16 sp

/-- `Push(v)` (R60): write, then decrement SP modulo 256. -/
def push (v : Byte) (s : State) : State := (memWrite (stackAddr s.sp) v s).setSP (s.sp - 1)

/-- The state after `Pull()` (R61): SP incremented modulo 256. -/
def pulled (s : State) : State := s.setSP (s.sp + 1)

/-- The byte `Pull()` returns (R61): the slot of the incremented SP. -/
def pullByte (s : State) : Byte := memRead (stackAddr (s.sp + 1)) s

/-- A word pushed high byte first, so that its low byte lies at the lower address (R56, R200). -/
def pushWord (w : Word) (s : State) : State := push (lo w) (push (hi w) s)

/-- The state after pulling a word (R201). -/
def pulledWord (s : State) : State := pulled (pulled s)

/-- A word pulled low byte first (R201, R211). -/
def pullWord (s : State) : Word := join (pullByte (pulled s)) (pullByte s)

/-! ## Interrupt entry and return (R212, R250, R251) -/

/-- The entry BRK and NMI share (R210, R212, R245, R250): push the return address high then low, push a status byte,
set I, load PC from the vector. Nothing else changes. -/
def enterInterrupt (ret : Word) (statusByte : Byte) (vector : Word) (s : State) : State :=
  let framed := push statusByte (pushWord ret s)
  (framed.setFlag .i true).setPC (memRead16 vector framed)

/-- The return from an interrupt, RTI (R211, R251): pull the status byte with B and bit 5 cleared, then PC with no + 1. -/
def returnFromInterrupt (s : State) : State :=
  let restored := (pulled s).setStatus (rtiStatus (pullByte s))
  (pulledWord restored).setPC (pullWord restored)

/-! ## Fetch and the precondition of Step and NMI -/

/-- The bytes from PC on that an instruction can occupy (R80, R88, R90).
Reading all three whatever the length has no side effect (R52, R115; entry 17). -/
def fetchBytes (s : State) : List Byte := [memRead s.pc s, memRead (s.pc + 1) s, memRead (s.pc + 2) s]

/-- The error of a Step whose byte at PC has no opcode-table entry (R240). -/
def invalidOpcodeAt (s : State) : Fault := .invalidOpcode (memRead s.pc s) s.pc

/-- Why Step and NMI are refused: before the first Reset (R270), or after a recorded error (R241). -/
def refuseCall (s : State) : Option Refusal :=
  if s.resetDone then s.fault.map Refusal.faulted else some .beforeReset

/-- The bytes of an instruction, given as a number of `nbits` bits with byte 0 first, loaded at PC, PC + 1 and PC + 2
past the write guard, with every bit above `nbits` zero. -/
def loadAtPC (s : State) (nbits w : Nat) : State :=
  let v := w % 2 ^ nbits
  memLoad (s.pc + 2) (byteOf v 2) (memLoad (s.pc + 1) (byteOf v 1) (memLoad s.pc (byteOf v 0) s))

end Sys2Proof.Machine
end

