-- ==== Sys2Proof/Machine/Operands.lean ====
section
/-! DEFINITION. The thirteen resolvers and the handler contract (40_addressing.md). -/

namespace Sys2Proof.Machine

/-- The descriptor a resolver returns (R101). -/
structure Descriptor where
  /-- The operand itself, or an address, or a jump target. -/
  val : Word
  /-- The operand bytes consumed: 0, 1 or 2. -/
  nbytes : Nat
  /-- Whether `val` is the operand itself. -/
  direct : Bool
deriving DecidableEq, Repr

/-- The resolver of each addressing mode (R102 to R113), on the operand bytes the decoder read at PC + 1 and PC + 2
(entry 17). It reads PC, X, Y, AC and memory as they stand at the start of the instruction (R89, R120), writes nothing, and
computes addresses modulo 65536 (D1; entry 6) with no page-crossing effect (R114, D3; entry 7). -/
def resolve (o : Operand) (s : State) : Descriptor :=
  match o with
  | .immediate imm => ⟨zext16 imm, 1, true⟩
  | .zeroPage zp => ⟨zext16 zp, 1, false⟩
  | .zeroPageX zp => ⟨zext16 (zp + s.x), 1, false⟩
  | .zeroPageY zp => ⟨zext16 (zp + s.y), 1, false⟩
  | .accumulator => ⟨zext16 s.ac, 0, true⟩
  | .absolute addr => ⟨addr, 2, false⟩
  | .absoluteX addr => ⟨addr + zext16 s.x, 2, false⟩
  | .absoluteY addr => ⟨addr + zext16 s.y, 2, false⟩
  | .indirect ptr => ⟨memRead16 ptr s, 2, false⟩
  | .indexedIndirect zp => ⟨zpRead16 (zp + s.x) s, 1, false⟩
  | .indirectIndexed zp => ⟨zpRead16 zp s + zext16 s.y, 1, false⟩
  | .relative off => ⟨s.pc + 2 + sext16 off, 1, false⟩
  | .implicit => ⟨0x0000, 0, false⟩

/-- `Operand()` (R116): the value itself, or the byte at the address. -/
def operandByte (d : Descriptor) (s : State) : Byte := if d.direct then lo d.val else memRead d.val s

/-- `WriteBack(v)` (R117): AC in Accumulator mode, else memory through the write guard. -/
def writeBack (o : Operand) (d : Descriptor) (v : Byte) (s : State) : State :=
  if o.mode = .accumulator then s.setAC v else memWrite d.val v s

/-- The end of a sequential instruction (R118): `PC <- PC + op.nbytes + 1`. -/
def advance (d : Descriptor) (s : State) : State := s.setPC (s.pc + BitVec.ofNat 16 (d.nbytes + 1))

end Sys2Proof.Machine
end

