-- ==== Sys2Proof/Machine/Arithmetic.lean ====
section
/-! DEFINITION. Arithmetic, increment and decrement (42_arithmetic.md): what each instruction does, once per
mnemonic, and one meaning for each opcode-table row. No instruction here raises an error: each answers a next state. -/

namespace Sys2Proof.Machine

/-- ADC (R150): binary whatever D holds (R158). -/
def handleAdc (o : Operand) (s : State) : State :=
  let d := resolve o s
  let v := operandByte d s
  advance d ((s.setAC (adcResult s.ac v (s.flag .c))).setStatus (adcStatus s.ac v s.status))

/-- ADC Immediate (0x69). -/
def execAdcImmediate (imm : Byte) (s : State) : Result := .next (handleAdc (.immediate imm) s)

/-- ADC ZeroPage (0x65). -/
def execAdcZeroPage (zp : Byte) (s : State) : Result := .next (handleAdc (.zeroPage zp) s)

/-- ADC ZeroPageX (0x75). -/
def execAdcZeroPageX (zp : Byte) (s : State) : Result := .next (handleAdc (.zeroPageX zp) s)

/-- ADC Absolute (0x6D). -/
def execAdcAbsolute (addr : Word) (s : State) : Result := .next (handleAdc (.absolute addr) s)

/-- ADC AbsoluteX (0x7D). -/
def execAdcAbsoluteX (addr : Word) (s : State) : Result := .next (handleAdc (.absoluteX addr) s)

/-- ADC AbsoluteY (0x79). -/
def execAdcAbsoluteY (addr : Word) (s : State) : Result := .next (handleAdc (.absoluteY addr) s)

/-- ADC IndexedIndirect (0x61). -/
def execAdcIndexedIndirect (zp : Byte) (s : State) : Result := .next (handleAdc (.indexedIndirect zp) s)

/-- ADC IndirectIndexed (0x71). -/
def execAdcIndirectIndexed (zp : Byte) (s : State) : Result := .next (handleAdc (.indirectIndexed zp) s)

/-- SBC (R151): binary whatever D holds (R158). -/
def handleSbc (o : Operand) (s : State) : State :=
  let d := resolve o s
  let v := operandByte d s
  advance d ((s.setAC (sbcResult s.ac v (s.flag .c))).setStatus (sbcStatus s.ac v s.status))

/-- SBC Immediate (0xE9). -/
def execSbcImmediate (imm : Byte) (s : State) : Result := .next (handleSbc (.immediate imm) s)

/-- SBC ZeroPage (0xE5). -/
def execSbcZeroPage (zp : Byte) (s : State) : Result := .next (handleSbc (.zeroPage zp) s)

/-- SBC ZeroPageX (0xF5). -/
def execSbcZeroPageX (zp : Byte) (s : State) : Result := .next (handleSbc (.zeroPageX zp) s)

/-- SBC Absolute (0xED). -/
def execSbcAbsolute (addr : Word) (s : State) : Result := .next (handleSbc (.absolute addr) s)

/-- SBC AbsoluteX (0xFD). -/
def execSbcAbsoluteX (addr : Word) (s : State) : Result := .next (handleSbc (.absoluteX addr) s)

/-- SBC AbsoluteY (0xF9). -/
def execSbcAbsoluteY (addr : Word) (s : State) : Result := .next (handleSbc (.absoluteY addr) s)

/-- SBC IndexedIndirect (0xE1). -/
def execSbcIndexedIndirect (zp : Byte) (s : State) : Result := .next (handleSbc (.indexedIndirect zp) s)

/-- SBC IndirectIndexed (0xF1). -/
def execSbcIndirectIndexed (zp : Byte) (s : State) : Result := .next (handleSbc (.indirectIndexed zp) s)

/-- INC (R152): the operand plus 1 written back, Z and N from it even when the write is dropped. -/
def handleInc (o : Operand) (s : State) : State :=
  let d := resolve o s
  let r := operandByte d s + 1
  advance d ((writeBack o d r s).setZN r)

/-- INC ZeroPage (0xE6). -/
def execIncZeroPage (zp : Byte) (s : State) : Result := .next (handleInc (.zeroPage zp) s)

/-- INC ZeroPageX (0xF6). -/
def execIncZeroPageX (zp : Byte) (s : State) : Result := .next (handleInc (.zeroPageX zp) s)

/-- INC Absolute (0xEE). -/
def execIncAbsolute (addr : Word) (s : State) : Result := .next (handleInc (.absolute addr) s)

/-- INC AbsoluteX (0xFE). -/
def execIncAbsoluteX (addr : Word) (s : State) : Result := .next (handleInc (.absoluteX addr) s)

/-- DEC (R153): the operand minus 1 written back, Z and N from it even when the write is dropped. -/
def handleDec (o : Operand) (s : State) : State :=
  let d := resolve o s
  let r := operandByte d s - 1
  advance d ((writeBack o d r s).setZN r)

/-- DEC ZeroPage (0xC6). -/
def execDecZeroPage (zp : Byte) (s : State) : Result := .next (handleDec (.zeroPage zp) s)

/-- DEC ZeroPageX (0xD6). -/
def execDecZeroPageX (zp : Byte) (s : State) : Result := .next (handleDec (.zeroPageX zp) s)

/-- DEC Absolute (0xCE). -/
def execDecAbsolute (addr : Word) (s : State) : Result := .next (handleDec (.absolute addr) s)

/-- DEC AbsoluteX (0xDE). -/
def execDecAbsoluteX (addr : Word) (s : State) : Result := .next (handleDec (.absoluteX addr) s)

/-- INX (R154): `X <- X + 1` modulo 256, Z and N from it. -/
def execInx (s : State) : Result :=
  .next (advance (resolve .implicit s) ((s.setX (s.x + 1)).setZN (s.x + 1)))

/-- DEX (R155): `X <- X - 1` modulo 256, Z and N from it. -/
def execDex (s : State) : Result :=
  .next (advance (resolve .implicit s) ((s.setX (s.x - 1)).setZN (s.x - 1)))

/-- INY (R156): `Y <- Y + 1` modulo 256, Z and N from it. -/
def execIny (s : State) : Result :=
  .next (advance (resolve .implicit s) ((s.setY (s.y + 1)).setZN (s.y + 1)))

/-- DEY (R157): `Y <- Y - 1` modulo 256, Z and N from it. -/
def execDey (s : State) : Result :=
  .next (advance (resolve .implicit s) ((s.setY (s.y - 1)).setZN (s.y - 1)))

end Sys2Proof.Machine
end

