-- ==== Sys2Proof/Machine/Control.lean ====
section
/-! DEFINITION. Branches, jumps, calls and returns (44_control_transfer.md): what each instruction does, once per
mnemonic, and one meaning for each opcode-table row. No instruction here raises an error: each answers a next state. -/

namespace Sys2Proof.Machine

/-- `Branch(flag, expect)` (R190): the resolved target if the flag is as expected, else PC + 2. -/
def branchOn (f : Flag) (expect : Bool) (d : Descriptor) (s : State) : State :=
  if s.flag f = expect then s.setPC d.val else s.setPC (s.pc + 2)

/-- BCC (R191): taken when C is 0. PRESUMED pairing (entry 14, D20). -/
def execBcc (off : Byte) (s : State) : Result :=
  .next (branchOn .c false (resolve (.relative off) s) s)

/-- BCS (R192): taken when C is 1. PRESUMED pairing (entry 14, D20). -/
def execBcs (off : Byte) (s : State) : Result :=
  .next (branchOn .c true (resolve (.relative off) s) s)

/-- BEQ (R193): taken when Z is 1. PRESUMED pairing (entry 14, D20). -/
def execBeq (off : Byte) (s : State) : Result :=
  .next (branchOn .z true (resolve (.relative off) s) s)

/-- BNE (R194): taken when Z is 0. PRESUMED pairing (entry 14, D20). -/
def execBne (off : Byte) (s : State) : Result :=
  .next (branchOn .z false (resolve (.relative off) s) s)

/-- BPL (R195): taken when N is 0. PRESUMED pairing (entry 14, D20). -/
def execBpl (off : Byte) (s : State) : Result :=
  .next (branchOn .n false (resolve (.relative off) s) s)

/-- BMI (R196): taken when N is 1. PRESUMED pairing (entry 14, D20). -/
def execBmi (off : Byte) (s : State) : Result :=
  .next (branchOn .n true (resolve (.relative off) s) s)

/-- BVC (R197): taken when V is 0. PRESUMED pairing (entry 14, D20). -/
def execBvc (off : Byte) (s : State) : Result :=
  .next (branchOn .v false (resolve (.relative off) s) s)

/-- BVS (R198): taken when V is 1. PRESUMED pairing (entry 14, D20). -/
def execBvs (off : Byte) (s : State) : Result :=
  .next (branchOn .v true (resolve (.relative off) s) s)

/-- JMP (R199): `PC <- op.val`. -/
def handleJmp (o : Operand) (s : State) : State :=
  s.setPC (resolve o s).val

/-- JMP Absolute (0x4C). -/
def execJmpAbsolute (addr : Word) (s : State) : Result := .next (handleJmp (.absolute addr) s)

/-- JMP Indirect (0x6C). -/
def execJmpIndirect (ptr : Word) (s : State) : Result := .next (handleJmp (.indirect ptr) s)

/-- JSR (R200): push PC + 2 high byte first, then `PC <- op.val`. -/
def execJsr (addr : Word) (s : State) : Result :=
  let d := resolve (.absolute addr) s
  .next ((pushWord (s.pc + 2) s).setPC d.val)

/-- RTS (R201): pull a word low byte first, `PC <- word + 1`. -/
def execRts (s : State) : Result :=
  .next ((pulledWord s).setPC (pullWord s + 1))

end Sys2Proof.Machine
end

