-- ==== Sys2Proof/Machine/Logic.lean ====
section
/-! DEFINITION. Shifts, rotates, logic, BIT and compares (43_shift_logic_compare.md): what each instruction does, once per
mnemonic, and one meaning for each opcode-table row. No instruction here raises an error: each answers a next state. -/

namespace Sys2Proof.Machine

/-- What ASL, LSR, ROL and ROR share (R170): C gets the bit shifted out, the result is written back, Z and N follow it
even when the write is dropped, V is kept. -/
def shiftInto (o : Operand) (d : Descriptor) (out : Bool) (r : Byte) (s : State) : State :=
  advance d ((writeBack o d r s).setStatus (shiftStatus out r s.status))

/-- ASL (R171, R170): bit 7 goes to C. -/
def handleAsl (o : Operand) (s : State) : State :=
  let d := resolve o s
  let v := operandByte d s
  shiftInto o d (negative v) (aslResult v) s

/-- ASL Accumulator (0x0A). -/
def execAslAccumulator (s : State) : Result := .next (handleAsl .accumulator s)

/-- ASL ZeroPage (0x06). -/
def execAslZeroPage (zp : Byte) (s : State) : Result := .next (handleAsl (.zeroPage zp) s)

/-- ASL ZeroPageX (0x16). -/
def execAslZeroPageX (zp : Byte) (s : State) : Result := .next (handleAsl (.zeroPageX zp) s)

/-- ASL Absolute (0x0E). -/
def execAslAbsolute (addr : Word) (s : State) : Result := .next (handleAsl (.absolute addr) s)

/-- ASL AbsoluteX (0x1E). -/
def execAslAbsoluteX (addr : Word) (s : State) : Result := .next (handleAsl (.absoluteX addr) s)

/-- LSR (R172, R170): bit 0 goes to C. -/
def handleLsr (o : Operand) (s : State) : State :=
  let d := resolve o s
  let v := operandByte d s
  shiftInto o d (v.getLsbD 0) (lsrResult v) s

/-- LSR Accumulator (0x4A). -/
def execLsrAccumulator (s : State) : Result := .next (handleLsr .accumulator s)

/-- LSR ZeroPage (0x46). -/
def execLsrZeroPage (zp : Byte) (s : State) : Result := .next (handleLsr (.zeroPage zp) s)

/-- LSR ZeroPageX (0x56). -/
def execLsrZeroPageX (zp : Byte) (s : State) : Result := .next (handleLsr (.zeroPageX zp) s)

/-- LSR Absolute (0x4E). -/
def execLsrAbsolute (addr : Word) (s : State) : Result := .next (handleLsr (.absolute addr) s)

/-- LSR AbsoluteX (0x5E). -/
def execLsrAbsoluteX (addr : Word) (s : State) : Result := .next (handleLsr (.absoluteX addr) s)

/-- ROL (R173, R170): bit 7 goes to C, the old C to bit 0. -/
def handleRol (o : Operand) (s : State) : State :=
  let d := resolve o s
  let v := operandByte d s
  shiftInto o d (negative v) (rolResult v (s.flag .c)) s

/-- ROL Accumulator (0x2A). -/
def execRolAccumulator (s : State) : Result := .next (handleRol .accumulator s)

/-- ROL ZeroPage (0x26). -/
def execRolZeroPage (zp : Byte) (s : State) : Result := .next (handleRol (.zeroPage zp) s)

/-- ROL ZeroPageX (0x36). -/
def execRolZeroPageX (zp : Byte) (s : State) : Result := .next (handleRol (.zeroPageX zp) s)

/-- ROL Absolute (0x2E). -/
def execRolAbsolute (addr : Word) (s : State) : Result := .next (handleRol (.absolute addr) s)

/-- ROL AbsoluteX (0x3E). -/
def execRolAbsoluteX (addr : Word) (s : State) : Result := .next (handleRol (.absoluteX addr) s)

/-- ROR (R174, R170): bit 0 goes to C, the old C to bit 7. -/
def handleRor (o : Operand) (s : State) : State :=
  let d := resolve o s
  let v := operandByte d s
  shiftInto o d (v.getLsbD 0) (rorResult v (s.flag .c)) s

/-- ROR Accumulator (0x6A). -/
def execRorAccumulator (s : State) : Result := .next (handleRor .accumulator s)

/-- ROR ZeroPage (0x66). -/
def execRorZeroPage (zp : Byte) (s : State) : Result := .next (handleRor (.zeroPage zp) s)

/-- ROR ZeroPageX (0x76). -/
def execRorZeroPageX (zp : Byte) (s : State) : Result := .next (handleRor (.zeroPageX zp) s)

/-- ROR Absolute (0x6E). -/
def execRorAbsolute (addr : Word) (s : State) : Result := .next (handleRor (.absolute addr) s)

/-- ROR AbsoluteX (0x7E). -/
def execRorAbsoluteX (addr : Word) (s : State) : Result := .next (handleRor (.absoluteX addr) s)

/-- AND (R175): bitwise with AC, Z and N from the result. -/
def handleAnd (o : Operand) (s : State) : State :=
  let d := resolve o s
  let r := s.ac &&& operandByte d s
  advance d ((s.setAC r).setZN r)

/-- AND Immediate (0x29). -/
def execAndImmediate (imm : Byte) (s : State) : Result := .next (handleAnd (.immediate imm) s)

/-- AND ZeroPage (0x25). -/
def execAndZeroPage (zp : Byte) (s : State) : Result := .next (handleAnd (.zeroPage zp) s)

/-- AND ZeroPageX (0x35). -/
def execAndZeroPageX (zp : Byte) (s : State) : Result := .next (handleAnd (.zeroPageX zp) s)

/-- AND Absolute (0x2D). -/
def execAndAbsolute (addr : Word) (s : State) : Result := .next (handleAnd (.absolute addr) s)

/-- AND AbsoluteX (0x3D). -/
def execAndAbsoluteX (addr : Word) (s : State) : Result := .next (handleAnd (.absoluteX addr) s)

/-- AND AbsoluteY (0x39). -/
def execAndAbsoluteY (addr : Word) (s : State) : Result := .next (handleAnd (.absoluteY addr) s)

/-- AND IndexedIndirect (0x21). -/
def execAndIndexedIndirect (zp : Byte) (s : State) : Result := .next (handleAnd (.indexedIndirect zp) s)

/-- AND IndirectIndexed (0x31). -/
def execAndIndirectIndexed (zp : Byte) (s : State) : Result := .next (handleAnd (.indirectIndexed zp) s)

/-- ORA (R176): bitwise with AC, Z and N from the result. -/
def handleOra (o : Operand) (s : State) : State :=
  let d := resolve o s
  let r := s.ac ||| operandByte d s
  advance d ((s.setAC r).setZN r)

/-- ORA Immediate (0x09). -/
def execOraImmediate (imm : Byte) (s : State) : Result := .next (handleOra (.immediate imm) s)

/-- ORA ZeroPage (0x05). -/
def execOraZeroPage (zp : Byte) (s : State) : Result := .next (handleOra (.zeroPage zp) s)

/-- ORA ZeroPageX (0x15). -/
def execOraZeroPageX (zp : Byte) (s : State) : Result := .next (handleOra (.zeroPageX zp) s)

/-- ORA Absolute (0x0D). -/
def execOraAbsolute (addr : Word) (s : State) : Result := .next (handleOra (.absolute addr) s)

/-- ORA AbsoluteX (0x1D). -/
def execOraAbsoluteX (addr : Word) (s : State) : Result := .next (handleOra (.absoluteX addr) s)

/-- ORA AbsoluteY (0x19). -/
def execOraAbsoluteY (addr : Word) (s : State) : Result := .next (handleOra (.absoluteY addr) s)

/-- ORA IndexedIndirect (0x01). -/
def execOraIndexedIndirect (zp : Byte) (s : State) : Result := .next (handleOra (.indexedIndirect zp) s)

/-- ORA IndirectIndexed (0x11). -/
def execOraIndirectIndexed (zp : Byte) (s : State) : Result := .next (handleOra (.indirectIndexed zp) s)

/-- EOR (R177): bitwise with AC, Z and N from the result. -/
def handleEor (o : Operand) (s : State) : State :=
  let d := resolve o s
  let r := s.ac ^^^ operandByte d s
  advance d ((s.setAC r).setZN r)

/-- EOR Immediate (0x49). -/
def execEorImmediate (imm : Byte) (s : State) : Result := .next (handleEor (.immediate imm) s)

/-- EOR ZeroPage (0x45). -/
def execEorZeroPage (zp : Byte) (s : State) : Result := .next (handleEor (.zeroPage zp) s)

/-- EOR ZeroPageX (0x55). -/
def execEorZeroPageX (zp : Byte) (s : State) : Result := .next (handleEor (.zeroPageX zp) s)

/-- EOR Absolute (0x4D). -/
def execEorAbsolute (addr : Word) (s : State) : Result := .next (handleEor (.absolute addr) s)

/-- EOR AbsoluteX (0x5D). -/
def execEorAbsoluteX (addr : Word) (s : State) : Result := .next (handleEor (.absoluteX addr) s)

/-- EOR AbsoluteY (0x59). -/
def execEorAbsoluteY (addr : Word) (s : State) : Result := .next (handleEor (.absoluteY addr) s)

/-- EOR IndexedIndirect (0x41). -/
def execEorIndexedIndirect (zp : Byte) (s : State) : Result := .next (handleEor (.indexedIndirect zp) s)

/-- EOR IndirectIndexed (0x51). -/
def execEorIndirectIndexed (zp : Byte) (s : State) : Result := .next (handleEor (.indirectIndexed zp) s)

/-- BIT (R178): Z from `AC & value`, N and V from bits 7 and 6 of the value. -/
def handleBit (o : Operand) (s : State) : State :=
  let d := resolve o s
  advance d (s.setStatus (bitStatus s.ac (operandByte d s) s.status))

/-- BIT ZeroPage (0x24). -/
def execBitZeroPage (zp : Byte) (s : State) : Result := .next (handleBit (.zeroPage zp) s)

/-- BIT Absolute (0x2C). -/
def execBitAbsolute (addr : Word) (s : State) : Result := .next (handleBit (.absolute addr) s)

/-- CMP (R180): `Compare(AC, Operand())` (R179). -/
def handleCmp (o : Operand) (s : State) : State :=
  let d := resolve o s
  advance d (s.setStatus (compareStatus s.ac (operandByte d s) s.status))

/-- CMP Immediate (0xC9). -/
def execCmpImmediate (imm : Byte) (s : State) : Result := .next (handleCmp (.immediate imm) s)

/-- CMP ZeroPage (0xC5). -/
def execCmpZeroPage (zp : Byte) (s : State) : Result := .next (handleCmp (.zeroPage zp) s)

/-- CMP ZeroPageX (0xD5). -/
def execCmpZeroPageX (zp : Byte) (s : State) : Result := .next (handleCmp (.zeroPageX zp) s)

/-- CMP Absolute (0xCD). -/
def execCmpAbsolute (addr : Word) (s : State) : Result := .next (handleCmp (.absolute addr) s)

/-- CMP AbsoluteX (0xDD). -/
def execCmpAbsoluteX (addr : Word) (s : State) : Result := .next (handleCmp (.absoluteX addr) s)

/-- CMP AbsoluteY (0xD9). -/
def execCmpAbsoluteY (addr : Word) (s : State) : Result := .next (handleCmp (.absoluteY addr) s)

/-- CMP IndexedIndirect (0xC1). -/
def execCmpIndexedIndirect (zp : Byte) (s : State) : Result := .next (handleCmp (.indexedIndirect zp) s)

/-- CMP IndirectIndexed (0xD1). -/
def execCmpIndirectIndexed (zp : Byte) (s : State) : Result := .next (handleCmp (.indirectIndexed zp) s)

/-- CPX (R181): `Compare(X, Operand())` (R179). -/
def handleCpx (o : Operand) (s : State) : State :=
  let d := resolve o s
  advance d (s.setStatus (compareStatus s.x (operandByte d s) s.status))

/-- CPX Immediate (0xE0). -/
def execCpxImmediate (imm : Byte) (s : State) : Result := .next (handleCpx (.immediate imm) s)

/-- CPX ZeroPage (0xE4). -/
def execCpxZeroPage (zp : Byte) (s : State) : Result := .next (handleCpx (.zeroPage zp) s)

/-- CPX Absolute (0xEC). -/
def execCpxAbsolute (addr : Word) (s : State) : Result := .next (handleCpx (.absolute addr) s)

/-- CPY (R182): `Compare(Y, Operand())` (R179). -/
def handleCpy (o : Operand) (s : State) : State :=
  let d := resolve o s
  advance d (s.setStatus (compareStatus s.y (operandByte d s) s.status))

/-- CPY Immediate (0xC0). -/
def execCpyImmediate (imm : Byte) (s : State) : Result := .next (handleCpy (.immediate imm) s)

/-- CPY ZeroPage (0xC4). -/
def execCpyZeroPage (zp : Byte) (s : State) : Result := .next (handleCpy (.zeroPage zp) s)

/-- CPY Absolute (0xCC). -/
def execCpyAbsolute (addr : Word) (s : State) : Result := .next (handleCpy (.absolute addr) s)

end Sys2Proof.Machine
end

