-- ==== Sys2Proof/Machine/System.lean ====
section
/-! DEFINITION. BRK and RTI, stack and flag instructions, NOP (45_interrupt_stack_flags.md): what each instruction does, once per
mnemonic, and one meaning for each opcode-table row. No instruction here raises an error: each answers a next state. -/

namespace Sys2Proof.Machine

/-- NMI (R245), a host call and no instruction: the shared entry with the address of the next instruction, Status pushed as
it stands, and the vector at 0xFFFA; I is not tested (D11; entry 12). Refused before the first Reset and after a recorded
error (D8, D9; entries 9 and 10). -/
def nmi (s : State) : Result :=
  match refuseCall s with
  | some r => .refused r
  | none => .next (enterInterrupt s.pc s.status Config.nmiVector s)

/-- BRK (R210): the shared entry with return address PC + 2, the status byte with bits 5 and 4 forced, and the vector at
0xFFFE; taken whatever I holds. -/
def execBrk (s : State) : Result :=
  .next (enterInterrupt (s.pc + 2) (pushedStatus s.status) Config.brkVector s)

/-- RTI (R211): the shared return. -/
def execRti (s : State) : Result :=
  .next (returnFromInterrupt s)

/-- PHA (R213): `Push(AC)`. -/
def execPha (s : State) : Result :=
  .next (advance (resolve .implicit s) (push s.ac s))

/-- PHP (R214): push Status with bits 5 and 4 forced in the pushed byte only. -/
def execPhp (s : State) : Result :=
  .next (advance (resolve .implicit s) (push (pushedStatus s.status) s))

/-- PLA (R215): pull AC; Z and N from it when the parameter `PLA_SETS_ZN` is true (entry 5, D4). -/
def execPla (s : State) : Result :=
  let v := pullByte s
  let t := (pulled s).setAC v
  .next (advance (resolve .implicit s) (if s.config.plaSetsZN then t.setZN v else t))

/-- PLP (R216): pull Status, B and bit 5 kept from the current one. -/
def execPlp (s : State) : Result :=
  .next (advance (resolve .implicit s) ((pulled s).setStatus (plpStatus (pullByte s) s.status)))

/-- CLC (R217): C becomes 0. PRESUMED pairing (entry 14, D20). -/
def execClc (s : State) : Result :=
  .next (advance (resolve .implicit s) (s.setFlag .c false))

/-- SEC (R218): C becomes 1. PRESUMED pairing (entry 14, D20). -/
def execSec (s : State) : Result :=
  .next (advance (resolve .implicit s) (s.setFlag .c true))

/-- CLI (R219): I becomes 0. PRESUMED pairing (entry 14, D20). -/
def execCli (s : State) : Result :=
  .next (advance (resolve .implicit s) (s.setFlag .i false))

/-- SEI (R220): I becomes 1. PRESUMED pairing (entry 14, D20). -/
def execSei (s : State) : Result :=
  .next (advance (resolve .implicit s) (s.setFlag .i true))

/-- CLD (R221): D becomes 0. PRESUMED pairing (entry 14, D20). -/
def execCld (s : State) : Result :=
  .next (advance (resolve .implicit s) (s.setFlag .d false))

/-- SED (R222): D becomes 1. PRESUMED pairing (entry 14, D20). -/
def execSed (s : State) : Result :=
  .next (advance (resolve .implicit s) (s.setFlag .d true))

/-- CLV (R223): V becomes 0. PRESUMED pairing (entry 14, D20). -/
def execClv (s : State) : Result :=
  .next (advance (resolve .implicit s) (s.setFlag .v false))

/-- NOP (R224): only PC advances. -/
def execNop (s : State) : Result :=
  .next (advance (resolve .implicit s) s)

end Sys2Proof.Machine
end

