-- ==== Sys2Proof/Machine/Transfer.lean ====
section
/-! DEFINITION. Loads, stores and transfers (41_load_store_transfer.md): what each instruction does, once per
mnemonic, and one meaning for each opcode-table row. No instruction here raises an error: each answers a next state. -/

namespace Sys2Proof.Machine

/-- LDA (R130): `AC <- operand`, Z and N from it. -/
def handleLda (o : Operand) (s : State) : State :=
  let d := resolve o s
  let v := operandByte d s
  advance d ((s.setAC v).setZN v)

/-- LDA Immediate (0xA9). -/
def execLdaImmediate (imm : Byte) (s : State) : Result := .next (handleLda (.immediate imm) s)

/-- LDA ZeroPage (0xA5). -/
def execLdaZeroPage (zp : Byte) (s : State) : Result := .next (handleLda (.zeroPage zp) s)

/-- LDA ZeroPageX (0xB5). -/
def execLdaZeroPageX (zp : Byte) (s : State) : Result := .next (handleLda (.zeroPageX zp) s)

/-- LDA Absolute (0xAD). -/
def execLdaAbsolute (addr : Word) (s : State) : Result := .next (handleLda (.absolute addr) s)

/-- LDA AbsoluteX (0xBD). -/
def execLdaAbsoluteX (addr : Word) (s : State) : Result := .next (handleLda (.absoluteX addr) s)

/-- LDA AbsoluteY (0xB9). -/
def execLdaAbsoluteY (addr : Word) (s : State) : Result := .next (handleLda (.absoluteY addr) s)

/-- LDA IndexedIndirect (0xA1). -/
def execLdaIndexedIndirect (zp : Byte) (s : State) : Result := .next (handleLda (.indexedIndirect zp) s)

/-- LDA IndirectIndexed (0xB1). -/
def execLdaIndirectIndexed (zp : Byte) (s : State) : Result := .next (handleLda (.indirectIndexed zp) s)

/-- LDX (R131): `X <- operand`, Z and N from it. -/
def handleLdx (o : Operand) (s : State) : State :=
  let d := resolve o s
  let v := operandByte d s
  advance d ((s.setX v).setZN v)

/-- LDX Immediate (0xA2). -/
def execLdxImmediate (imm : Byte) (s : State) : Result := .next (handleLdx (.immediate imm) s)

/-- LDX ZeroPage (0xA6). -/
def execLdxZeroPage (zp : Byte) (s : State) : Result := .next (handleLdx (.zeroPage zp) s)

/-- LDX ZeroPageY (0xB6). -/
def execLdxZeroPageY (zp : Byte) (s : State) : Result := .next (handleLdx (.zeroPageY zp) s)

/-- LDX Absolute (0xAE). -/
def execLdxAbsolute (addr : Word) (s : State) : Result := .next (handleLdx (.absolute addr) s)

/-- LDX AbsoluteY (0xBE). -/
def execLdxAbsoluteY (addr : Word) (s : State) : Result := .next (handleLdx (.absoluteY addr) s)

/-- LDY (R132): `Y <- operand`, Z and N from it. -/
def handleLdy (o : Operand) (s : State) : State :=
  let d := resolve o s
  let v := operandByte d s
  advance d ((s.setY v).setZN v)

/-- LDY Immediate (0xA0). -/
def execLdyImmediate (imm : Byte) (s : State) : Result := .next (handleLdy (.immediate imm) s)

/-- LDY ZeroPage (0xA4). -/
def execLdyZeroPage (zp : Byte) (s : State) : Result := .next (handleLdy (.zeroPage zp) s)

/-- LDY ZeroPageX (0xB4). -/
def execLdyZeroPageX (zp : Byte) (s : State) : Result := .next (handleLdy (.zeroPageX zp) s)

/-- LDY Absolute (0xAC). -/
def execLdyAbsolute (addr : Word) (s : State) : Result := .next (handleLdy (.absolute addr) s)

/-- LDY AbsoluteX (0xBC). -/
def execLdyAbsoluteX (addr : Word) (s : State) : Result := .next (handleLdy (.absoluteX addr) s)

/-- STA (R133): `MemWrite(op.val, 1, AC)`, under the write guard; no flag, and memory is not read. -/
def handleSta (o : Operand) (s : State) : State :=
  let d := resolve o s
  advance d (memWrite d.val s.ac s)

/-- STA ZeroPage (0x85). -/
def execStaZeroPage (zp : Byte) (s : State) : Result := .next (handleSta (.zeroPage zp) s)

/-- STA ZeroPageX (0x95). -/
def execStaZeroPageX (zp : Byte) (s : State) : Result := .next (handleSta (.zeroPageX zp) s)

/-- STA Absolute (0x8D). -/
def execStaAbsolute (addr : Word) (s : State) : Result := .next (handleSta (.absolute addr) s)

/-- STA AbsoluteX (0x9D). -/
def execStaAbsoluteX (addr : Word) (s : State) : Result := .next (handleSta (.absoluteX addr) s)

/-- STA AbsoluteY (0x99). -/
def execStaAbsoluteY (addr : Word) (s : State) : Result := .next (handleSta (.absoluteY addr) s)

/-- STA IndexedIndirect (0x81). -/
def execStaIndexedIndirect (zp : Byte) (s : State) : Result := .next (handleSta (.indexedIndirect zp) s)

/-- STA IndirectIndexed (0x91). -/
def execStaIndirectIndexed (zp : Byte) (s : State) : Result := .next (handleSta (.indirectIndexed zp) s)

/-- STX (R134): `MemWrite(op.val, 1, X)`, under the write guard; no flag, and memory is not read. -/
def handleStx (o : Operand) (s : State) : State :=
  let d := resolve o s
  advance d (memWrite d.val s.x s)

/-- STX ZeroPage (0x86). -/
def execStxZeroPage (zp : Byte) (s : State) : Result := .next (handleStx (.zeroPage zp) s)

/-- STX ZeroPageY (0x96). -/
def execStxZeroPageY (zp : Byte) (s : State) : Result := .next (handleStx (.zeroPageY zp) s)

/-- STX Absolute (0x8E). -/
def execStxAbsolute (addr : Word) (s : State) : Result := .next (handleStx (.absolute addr) s)

/-- STY (R135): `MemWrite(op.val, 1, Y)`, under the write guard; no flag, and memory is not read. -/
def handleSty (o : Operand) (s : State) : State :=
  let d := resolve o s
  advance d (memWrite d.val s.y s)

/-- STY ZeroPage (0x84). -/
def execStyZeroPage (zp : Byte) (s : State) : Result := .next (handleSty (.zeroPage zp) s)

/-- STY ZeroPageX (0x94). -/
def execStyZeroPageX (zp : Byte) (s : State) : Result := .next (handleSty (.zeroPageX zp) s)

/-- STY Absolute (0x8C). -/
def execStyAbsolute (addr : Word) (s : State) : Result := .next (handleSty (.absolute addr) s)

/-- TAX (R136): `X <- AC`, Z and N from the destination. -/
def execTax (s : State) : Result :=
  .next (advance (resolve .implicit s) ((s.setX s.ac).setZN s.ac))

/-- TXA (R137): `AC <- X`, Z and N from the destination. -/
def execTxa (s : State) : Result :=
  .next (advance (resolve .implicit s) ((s.setAC s.x).setZN s.x))

/-- TAY (R138): `Y <- AC`, Z and N from the destination. -/
def execTay (s : State) : Result :=
  .next (advance (resolve .implicit s) ((s.setY s.ac).setZN s.ac))

/-- TYA (R139): `AC <- Y`, Z and N from the destination. -/
def execTya (s : State) : Result :=
  .next (advance (resolve .implicit s) ((s.setAC s.y).setZN s.y))

/-- TXS (R140): `SP <- X`, no flag. -/
def execTxs (s : State) : Result :=
  .next (advance (resolve .implicit s) (s.setSP s.x))

/-- TSX (R141): `X <- SP`, Z and N from the destination. -/
def execTsx (s : State) : Result :=
  .next (advance (resolve .implicit s) ((s.setX s.sp).setZN s.sp))

end Sys2Proof.Machine
end

