-- ==== Sys2Proof/Machine/Dispatch.lean ====
section
/-! DEFINITION. The dispatch: one arm for each constructor of `Instr`, each one direct call of its meaning (R81, R88). -/

namespace Sys2Proof.Machine

def exec (i : Instr) (s : State) : Host.Outcome State Fault Refusal :=
  match i with
  -- Loads, stores and transfers (41_load_store_transfer.md)
  | .ldaImmediate imm => Sys2Proof.Machine.execLdaImmediate imm s
  | .ldaZeroPage zp => Sys2Proof.Machine.execLdaZeroPage zp s
  | .ldaZeroPageX zp => Sys2Proof.Machine.execLdaZeroPageX zp s
  | .ldaAbsolute addr => Sys2Proof.Machine.execLdaAbsolute addr s
  | .ldaAbsoluteX addr => Sys2Proof.Machine.execLdaAbsoluteX addr s
  | .ldaAbsoluteY addr => Sys2Proof.Machine.execLdaAbsoluteY addr s
  | .ldaIndexedIndirect zp => Sys2Proof.Machine.execLdaIndexedIndirect zp s
  | .ldaIndirectIndexed zp => Sys2Proof.Machine.execLdaIndirectIndexed zp s
  | .ldxImmediate imm => Sys2Proof.Machine.execLdxImmediate imm s
  | .ldxZeroPage zp => Sys2Proof.Machine.execLdxZeroPage zp s
  | .ldxZeroPageY zp => Sys2Proof.Machine.execLdxZeroPageY zp s
  | .ldxAbsolute addr => Sys2Proof.Machine.execLdxAbsolute addr s
  | .ldxAbsoluteY addr => Sys2Proof.Machine.execLdxAbsoluteY addr s
  | .ldyImmediate imm => Sys2Proof.Machine.execLdyImmediate imm s
  | .ldyZeroPage zp => Sys2Proof.Machine.execLdyZeroPage zp s
  | .ldyZeroPageX zp => Sys2Proof.Machine.execLdyZeroPageX zp s
  | .ldyAbsolute addr => Sys2Proof.Machine.execLdyAbsolute addr s
  | .ldyAbsoluteX addr => Sys2Proof.Machine.execLdyAbsoluteX addr s
  | .staZeroPage zp => Sys2Proof.Machine.execStaZeroPage zp s
  | .staZeroPageX zp => Sys2Proof.Machine.execStaZeroPageX zp s
  | .staAbsolute addr => Sys2Proof.Machine.execStaAbsolute addr s
  | .staAbsoluteX addr => Sys2Proof.Machine.execStaAbsoluteX addr s
  | .staAbsoluteY addr => Sys2Proof.Machine.execStaAbsoluteY addr s
  | .staIndexedIndirect zp => Sys2Proof.Machine.execStaIndexedIndirect zp s
  | .staIndirectIndexed zp => Sys2Proof.Machine.execStaIndirectIndexed zp s
  | .stxZeroPage zp => Sys2Proof.Machine.execStxZeroPage zp s
  | .stxZeroPageY zp => Sys2Proof.Machine.execStxZeroPageY zp s
  | .stxAbsolute addr => Sys2Proof.Machine.execStxAbsolute addr s
  | .styZeroPage zp => Sys2Proof.Machine.execStyZeroPage zp s
  | .styZeroPageX zp => Sys2Proof.Machine.execStyZeroPageX zp s
  | .styAbsolute addr => Sys2Proof.Machine.execStyAbsolute addr s
  | .tax => Sys2Proof.Machine.execTax s
  | .txa => Sys2Proof.Machine.execTxa s
  | .tay => Sys2Proof.Machine.execTay s
  | .tya => Sys2Proof.Machine.execTya s
  | .txs => Sys2Proof.Machine.execTxs s
  | .tsx => Sys2Proof.Machine.execTsx s
  -- Arithmetic, increment and decrement (42_arithmetic.md)
  | .adcImmediate imm => Sys2Proof.Machine.execAdcImmediate imm s
  | .adcZeroPage zp => Sys2Proof.Machine.execAdcZeroPage zp s
  | .adcZeroPageX zp => Sys2Proof.Machine.execAdcZeroPageX zp s
  | .adcAbsolute addr => Sys2Proof.Machine.execAdcAbsolute addr s
  | .adcAbsoluteX addr => Sys2Proof.Machine.execAdcAbsoluteX addr s
  | .adcAbsoluteY addr => Sys2Proof.Machine.execAdcAbsoluteY addr s
  | .adcIndexedIndirect zp => Sys2Proof.Machine.execAdcIndexedIndirect zp s
  | .adcIndirectIndexed zp => Sys2Proof.Machine.execAdcIndirectIndexed zp s
  | .sbcImmediate imm => Sys2Proof.Machine.execSbcImmediate imm s
  | .sbcZeroPage zp => Sys2Proof.Machine.execSbcZeroPage zp s
  | .sbcZeroPageX zp => Sys2Proof.Machine.execSbcZeroPageX zp s
  | .sbcAbsolute addr => Sys2Proof.Machine.execSbcAbsolute addr s
  | .sbcAbsoluteX addr => Sys2Proof.Machine.execSbcAbsoluteX addr s
  | .sbcAbsoluteY addr => Sys2Proof.Machine.execSbcAbsoluteY addr s
  | .sbcIndexedIndirect zp => Sys2Proof.Machine.execSbcIndexedIndirect zp s
  | .sbcIndirectIndexed zp => Sys2Proof.Machine.execSbcIndirectIndexed zp s
  | .incZeroPage zp => Sys2Proof.Machine.execIncZeroPage zp s
  | .incZeroPageX zp => Sys2Proof.Machine.execIncZeroPageX zp s
  | .incAbsolute addr => Sys2Proof.Machine.execIncAbsolute addr s
  | .incAbsoluteX addr => Sys2Proof.Machine.execIncAbsoluteX addr s
  | .decZeroPage zp => Sys2Proof.Machine.execDecZeroPage zp s
  | .decZeroPageX zp => Sys2Proof.Machine.execDecZeroPageX zp s
  | .decAbsolute addr => Sys2Proof.Machine.execDecAbsolute addr s
  | .decAbsoluteX addr => Sys2Proof.Machine.execDecAbsoluteX addr s
  | .inx => Sys2Proof.Machine.execInx s
  | .dex => Sys2Proof.Machine.execDex s
  | .iny => Sys2Proof.Machine.execIny s
  | .dey => Sys2Proof.Machine.execDey s
  -- Shifts, rotates, logic, BIT and compares (43_shift_logic_compare.md)
  | .aslAccumulator => Sys2Proof.Machine.execAslAccumulator s
  | .aslZeroPage zp => Sys2Proof.Machine.execAslZeroPage zp s
  | .aslZeroPageX zp => Sys2Proof.Machine.execAslZeroPageX zp s
  | .aslAbsolute addr => Sys2Proof.Machine.execAslAbsolute addr s
  | .aslAbsoluteX addr => Sys2Proof.Machine.execAslAbsoluteX addr s
  | .lsrAccumulator => Sys2Proof.Machine.execLsrAccumulator s
  | .lsrZeroPage zp => Sys2Proof.Machine.execLsrZeroPage zp s
  | .lsrZeroPageX zp => Sys2Proof.Machine.execLsrZeroPageX zp s
  | .lsrAbsolute addr => Sys2Proof.Machine.execLsrAbsolute addr s
  | .lsrAbsoluteX addr => Sys2Proof.Machine.execLsrAbsoluteX addr s
  | .rolAccumulator => Sys2Proof.Machine.execRolAccumulator s
  | .rolZeroPage zp => Sys2Proof.Machine.execRolZeroPage zp s
  | .rolZeroPageX zp => Sys2Proof.Machine.execRolZeroPageX zp s
  | .rolAbsolute addr => Sys2Proof.Machine.execRolAbsolute addr s
  | .rolAbsoluteX addr => Sys2Proof.Machine.execRolAbsoluteX addr s
  | .rorAccumulator => Sys2Proof.Machine.execRorAccumulator s
  | .rorZeroPage zp => Sys2Proof.Machine.execRorZeroPage zp s
  | .rorZeroPageX zp => Sys2Proof.Machine.execRorZeroPageX zp s
  | .rorAbsolute addr => Sys2Proof.Machine.execRorAbsolute addr s
  | .rorAbsoluteX addr => Sys2Proof.Machine.execRorAbsoluteX addr s
  | .andImmediate imm => Sys2Proof.Machine.execAndImmediate imm s
  | .andZeroPage zp => Sys2Proof.Machine.execAndZeroPage zp s
  | .andZeroPageX zp => Sys2Proof.Machine.execAndZeroPageX zp s
  | .andAbsolute addr => Sys2Proof.Machine.execAndAbsolute addr s
  | .andAbsoluteX addr => Sys2Proof.Machine.execAndAbsoluteX addr s
  | .andAbsoluteY addr => Sys2Proof.Machine.execAndAbsoluteY addr s
  | .andIndexedIndirect zp => Sys2Proof.Machine.execAndIndexedIndirect zp s
  | .andIndirectIndexed zp => Sys2Proof.Machine.execAndIndirectIndexed zp s
  | .oraImmediate imm => Sys2Proof.Machine.execOraImmediate imm s
  | .oraZeroPage zp => Sys2Proof.Machine.execOraZeroPage zp s
  | .oraZeroPageX zp => Sys2Proof.Machine.execOraZeroPageX zp s
  | .oraAbsolute addr => Sys2Proof.Machine.execOraAbsolute addr s
  | .oraAbsoluteX addr => Sys2Proof.Machine.execOraAbsoluteX addr s
  | .oraAbsoluteY addr => Sys2Proof.Machine.execOraAbsoluteY addr s
  | .oraIndexedIndirect zp => Sys2Proof.Machine.execOraIndexedIndirect zp s
  | .oraIndirectIndexed zp => Sys2Proof.Machine.execOraIndirectIndexed zp s
  | .eorImmediate imm => Sys2Proof.Machine.execEorImmediate imm s
  | .eorZeroPage zp => Sys2Proof.Machine.execEorZeroPage zp s
  | .eorZeroPageX zp => Sys2Proof.Machine.execEorZeroPageX zp s
  | .eorAbsolute addr => Sys2Proof.Machine.execEorAbsolute addr s
  | .eorAbsoluteX addr => Sys2Proof.Machine.execEorAbsoluteX addr s
  | .eorAbsoluteY addr => Sys2Proof.Machine.execEorAbsoluteY addr s
  | .eorIndexedIndirect zp => Sys2Proof.Machine.execEorIndexedIndirect zp s
  | .eorIndirectIndexed zp => Sys2Proof.Machine.execEorIndirectIndexed zp s
  | .bitZeroPage zp => Sys2Proof.Machine.execBitZeroPage zp s
  | .bitAbsolute addr => Sys2Proof.Machine.execBitAbsolute addr s
  | .cmpImmediate imm => Sys2Proof.Machine.execCmpImmediate imm s
  | .cmpZeroPage zp => Sys2Proof.Machine.execCmpZeroPage zp s
  | .cmpZeroPageX zp => Sys2Proof.Machine.execCmpZeroPageX zp s
  | .cmpAbsolute addr => Sys2Proof.Machine.execCmpAbsolute addr s
  | .cmpAbsoluteX addr => Sys2Proof.Machine.execCmpAbsoluteX addr s
  | .cmpAbsoluteY addr => Sys2Proof.Machine.execCmpAbsoluteY addr s
  | .cmpIndexedIndirect zp => Sys2Proof.Machine.execCmpIndexedIndirect zp s
  | .cmpIndirectIndexed zp => Sys2Proof.Machine.execCmpIndirectIndexed zp s
  | .cpxImmediate imm => Sys2Proof.Machine.execCpxImmediate imm s
  | .cpxZeroPage zp => Sys2Proof.Machine.execCpxZeroPage zp s
  | .cpxAbsolute addr => Sys2Proof.Machine.execCpxAbsolute addr s
  | .cpyImmediate imm => Sys2Proof.Machine.execCpyImmediate imm s
  | .cpyZeroPage zp => Sys2Proof.Machine.execCpyZeroPage zp s
  | .cpyAbsolute addr => Sys2Proof.Machine.execCpyAbsolute addr s
  -- Branches, jumps, calls and returns (44_control_transfer.md)
  | .bcc off => Sys2Proof.Machine.execBcc off s
  | .bcs off => Sys2Proof.Machine.execBcs off s
  | .beq off => Sys2Proof.Machine.execBeq off s
  | .bne off => Sys2Proof.Machine.execBne off s
  | .bpl off => Sys2Proof.Machine.execBpl off s
  | .bmi off => Sys2Proof.Machine.execBmi off s
  | .bvc off => Sys2Proof.Machine.execBvc off s
  | .bvs off => Sys2Proof.Machine.execBvs off s
  | .jmpAbsolute addr => Sys2Proof.Machine.execJmpAbsolute addr s
  | .jmpIndirect ptr => Sys2Proof.Machine.execJmpIndirect ptr s
  | .jsr addr => Sys2Proof.Machine.execJsr addr s
  | .rts => Sys2Proof.Machine.execRts s
  -- BRK and RTI, stack and flag instructions, NOP (45_interrupt_stack_flags.md)
  | .brk => Sys2Proof.Machine.execBrk s
  | .rti => Sys2Proof.Machine.execRti s
  | .pha => Sys2Proof.Machine.execPha s
  | .php => Sys2Proof.Machine.execPhp s
  | .pla => Sys2Proof.Machine.execPla s
  | .plp => Sys2Proof.Machine.execPlp s
  | .clc => Sys2Proof.Machine.execClc s
  | .sec => Sys2Proof.Machine.execSec s
  | .cli => Sys2Proof.Machine.execCli s
  | .sei => Sys2Proof.Machine.execSei s
  | .cld => Sys2Proof.Machine.execCld s
  | .sed => Sys2Proof.Machine.execSed s
  | .clv => Sys2Proof.Machine.execClv s
  | .nop => Sys2Proof.Machine.execNop s

end Sys2Proof.Machine
end

