-- ==== Sys2Proof/Machine/Step.lean ====
section
/-! DEFINITION. One Step of the core (R88), and the host's way to put an instruction where the next Step fetches it. -/

namespace Sys2Proof.Machine

/-- `Step()` (R88): refused before the first Reset (R270) and after a recorded error (R241); else the instruction at PC runs,
or the byte at PC has no table entry and InvalidOpcode ends the call with nothing changed (R240). -/
def step (s : State) : Host.Outcome State Fault Refusal :=
  match refuseCall s with
  | some r => .refused r
  | none =>
    match decode (fetchBytes s) with
    | .ok (i, _) => exec i s
    | .error _ => .fault (invalidOpcodeAt s)

/-- The state with an instruction at PC, as the loader would have placed it, in a core that may Step (entry 21): the fetch
needs the bytes at PC, `resetDone` true and no recorded error, and nothing else changes. -/
def State.withFetchWord (s : State) (nbits w : Nat) : State :=
  ((loadAtPC s nbits w).setResetDone true).setFault none

end Sys2Proof.Machine
end

