-- ==== Sys2Proof/Machine/HostCalls.lean ====
section
/-! DEFINITION. The host interface (R8, R255): construction, and one transition for each call the host may make. -/

namespace Sys2Proof.Machine

/-- The state at construction (R41), for the parameters of R10: `cfg` holds `ZP_PTR_WRAP` and `PLA_SETS_ZN`, and `image` holds
`RAM_INIT` below 0x8000 and `ROM_IMAGE` from 0x8000 on (R57). -/
def State.construct (cfg : Config) (spInit : Byte) (image : Memory) : State where
  ac := 0x00
  x := 0x00
  y := 0x00
  sp := spInit
  pc := 0x0000
  status := 0x00
  mem := image
  resetDone := false
  fault := none
  config := cfg

/-- `Reset()` (R271): PC from the reset vector and `reset_done`; nothing else, and a recorded error stays (D5; entry 8). -/
def hostReset (s : State) : State := (s.setPC (memRead16 Config.resetVector s)).setResetDone true

/-- The launch state (R272): construction, the image in place, then the first Reset. -/
def State.launch (cfg : Config) (spInit : Byte) (image : Memory) : State := hostReset (State.construct cfg spInit image)

/-- One byte of the loader's ROM image (R57, R255): written past the guard, before the first Reset and from 0x8000 on;
any other write by the host is refused (D17; entry 18). -/
def hostLoad (a : Word) (v : Byte) (s : State) : Result :=
  if s.resetDone || !guarded a then .refused (.loaderClosed a) else .next (memLoad a v s)

/-- `SetFlag(ch, b)` (R244): exactly that bit; any character outside the seven fails and changes nothing (R243). -/
def hostSetFlag (ch : Char) (b : Bool) (s : State) : Result :=
  match Flag.ofChar ch with
  | some f => .next (s.setFlag f b)
  | none => .fault (.invalidFlag ch)

/-- `GetFlag(ch)` (R243, R244): the bit, or the error. -/
def hostGetFlag (ch : Char) (s : State) : Except Fault Bool :=
  match Flag.ofChar ch with
  | some f => .ok (s.flag f)
  | none => .error (.invalidFlag ch)

/-- A byte read by the host between calls, as the display does (R51, R255). -/
def hostRead (a : Word) (s : State) : Byte := memRead a s

/-- What the host may call after construction (R8, R255). -/
inductive HostCall where
  /-- One byte of the ROM image. -/
  | load (a : Word) (v : Byte)
  | reset
  | step
  | nmi
  | setFlag (ch : Char) (b : Bool)
  | getFlag (ch : Char)
  /-- A read of memory between calls. -/
  | read (a : Word)
deriving DecidableEq, Repr

/-- What the host gets back from a call (R255). -/
inductive Answer where
  | ok
  | flag (b : Bool)
  | byte (v : Byte)
  | error (f : Fault)
  | refused (r : Refusal)
deriving DecidableEq, Repr

/-- The state after a call and its answer: an error or a refusal leaves the state as it was. -/
def settle (s : State) : Result → State × Answer
  | .next t => (t, .ok)
  | .fault f => (s, .error f)
  | .refused r => (s, .refused r)

/-- The state after a Step and its answer: the error that ends a Step is recorded in `fault` (R241, D8; entry 9). -/
def settleStep (s : State) : Result → State × Answer
  | .next t => (t, .ok)
  | .fault f => (s.setFault (some f), .error f)
  | .refused r => (s, .refused r)

/-- One host call: the state after it and what the host gets back (R8, R255). Each call is atomic (R64). -/
def call (c : HostCall) (s : State) : State × Answer :=
  match c with
  | .load a v => settle s (hostLoad a v s)
  | .reset => (hostReset s, .ok)
  | .step => settleStep s (Sys2Proof.Machine.step s)
  | .nmi => settle s (Sys2Proof.Machine.nmi s)
  | .setFlag ch b => settle s (hostSetFlag ch b s)
  | .getFlag ch =>
    match hostGetFlag ch s with
    | .ok b => (s, .flag b)
    | .error f => (s, .error f)
  | .read a => (s, .byte (hostRead a s))

end Sys2Proof.Machine
end

