-- ==== Sys2Proof/WellFormed.lean ====
section
/-! DEFINITION. Which addressing modes each instruction accepts (R119), read from the "Operands" line of its own rule.
Every constructor of `Instr` carries operand bytes of exactly the width its row has, so this is the one check there is. -/

namespace Sys2Proof

/-- The modes an instruction's rule lists under "Operands" (R130..R224, R119). -/
def acceptedModes : Mnemonic → List Mode
  | .lda | .adc | .sbc | .and | .ora | .eor | .cmp =>
    [.immediate, .zeroPage, .zeroPageX, .absolute, .absoluteX, .absoluteY, .indexedIndirect, .indirectIndexed]
  | .ldx =>
    [.immediate, .zeroPage, .zeroPageY, .absolute, .absoluteY]
  | .ldy =>
    [.immediate, .zeroPage, .zeroPageX, .absolute, .absoluteX]
  | .sta =>
    [.zeroPage, .zeroPageX, .absolute, .absoluteX, .absoluteY, .indexedIndirect, .indirectIndexed]
  | .stx =>
    [.zeroPage, .zeroPageY, .absolute]
  | .sty =>
    [.zeroPage, .zeroPageX, .absolute]
  | .tax | .txa | .tay | .tya | .txs | .tsx | .inx | .dex | .iny | .dey | .rts | .brk | .rti | .pha | .php
    | .pla | .plp | .clc | .sec | .cli | .sei | .cld | .sed | .clv | .nop =>
    [.implicit]
  | .inc | .dec =>
    [.zeroPage, .zeroPageX, .absolute, .absoluteX]
  | .asl | .lsr | .rol | .ror =>
    [.accumulator, .zeroPage, .zeroPageX, .absolute, .absoluteX]
  | .bit =>
    [.zeroPage, .absolute]
  | .cpx | .cpy =>
    [.immediate, .zeroPage, .absolute]
  | .bcc | .bcs | .beq | .bne | .bpl | .bmi | .bvc | .bvs =>
    [.relative]
  | .jmp =>
    [.absolute, .indirect]
  | .jsr =>
    [.absolute]

/-- Whether an instruction takes an operand of this mode (R119). -/
def accepts (m : Mnemonic) (mode : Mode) : Bool := (acceptedModes m).contains mode

/-- The well-formedness of an instruction: its mnemonic accepts its addressing mode (R119). -/
def Instr.wellFormed (i : Instr) : Bool := accepts i.mnemonic i.mode

end Sys2Proof
end

