-- ==== Sys2Proof/Safety.lean ====
section
/-! DEFINITION. The terms claims are made in: when the core may run, the invariant of its states, and what stays unchanged. -/

namespace Sys2Proof.Machine

/-- A core on which Step and NMI are taken: after the first Reset, with no recorded error (R241, R270). -/
def State.Ready (s : State) : Prop := s.resetDone = true ∧ s.fault = none

/-- Bit 5 of Status, which has no name (R23). -/
def State.unused (s : State) : Bool := unusedBit s.status

/-- The 8-bit registers other than Status (R20). -/
inductive Reg where
  | ac | x | y | sp
deriving DecidableEq, Repr

/-- The value of an 8-bit register. -/
def State.reg (s : State) : Reg → Byte
  | .ac => s.ac
  | .x => s.x
  | .y => s.y
  | .sp => s.sp

/-- The bytes with no opcode-table entry, as R85 lists them. -/
def unassignedBytes : List Byte :=
  [0x02, 0x03, 0x04, 0x07, 0x0B, 0x0C, 0x0F, 0x12, 0x13, 0x14, 0x17, 0x1A, 0x1B, 0x1C, 0x1F] ++
  [0x22, 0x23, 0x27, 0x2B, 0x2F, 0x32, 0x33, 0x34, 0x37, 0x3A, 0x3B, 0x3C, 0x3F] ++
  [0x42, 0x43, 0x44, 0x47, 0x4B, 0x4F, 0x52, 0x53, 0x54, 0x57, 0x5A, 0x5B, 0x5C, 0x5F] ++
  [0x62, 0x63, 0x64, 0x67, 0x6B, 0x6F, 0x72, 0x73, 0x74, 0x77, 0x7A, 0x7B, 0x7C, 0x7F] ++
  [0x80, 0x82, 0x83, 0x87, 0x89, 0x8B, 0x8F, 0x92, 0x93, 0x97, 0x9B, 0x9C, 0x9E, 0x9F] ++
  [0xA3, 0xA7, 0xAB, 0xAF, 0xB2, 0xB3, 0xB7, 0xBB, 0xBF] ++
  [0xC2, 0xC3, 0xC7, 0xCB, 0xCF, 0xD2, 0xD3, 0xD4, 0xD7, 0xDA, 0xDB, 0xDC, 0xDF] ++
  [0xE2, 0xE3, 0xE7, 0xEB, 0xEF, 0xF2, 0xF3, 0xF4, 0xF7, 0xFA, 0xFB, 0xFC, 0xFF]

/-- The "Encoding" line of each instruction's rule (R130 to R224), in the order of its "Operands" line.
PRESUMED (entry 13): the spec takes these lines from general knowledge, but for 0xA9 and 0x8D (D12). -/
def ruleOpcodes : Mnemonic → List Byte
  | .lda => [0xA9, 0xA5, 0xB5, 0xAD, 0xBD, 0xB9, 0xA1, 0xB1]
  | .ldx => [0xA2, 0xA6, 0xB6, 0xAE, 0xBE]
  | .ldy => [0xA0, 0xA4, 0xB4, 0xAC, 0xBC]
  | .sta => [0x85, 0x95, 0x8D, 0x9D, 0x99, 0x81, 0x91]
  | .stx => [0x86, 0x96, 0x8E]
  | .sty => [0x84, 0x94, 0x8C]
  | .tax => [0xAA]
  | .txa => [0x8A]
  | .tay => [0xA8]
  | .tya => [0x98]
  | .txs => [0x9A]
  | .tsx => [0xBA]
  | .adc => [0x69, 0x65, 0x75, 0x6D, 0x7D, 0x79, 0x61, 0x71]
  | .sbc => [0xE9, 0xE5, 0xF5, 0xED, 0xFD, 0xF9, 0xE1, 0xF1]
  | .inc => [0xE6, 0xF6, 0xEE, 0xFE]
  | .dec => [0xC6, 0xD6, 0xCE, 0xDE]
  | .inx => [0xE8]
  | .dex => [0xCA]
  | .iny => [0xC8]
  | .dey => [0x88]
  | .asl => [0x0A, 0x06, 0x16, 0x0E, 0x1E]
  | .lsr => [0x4A, 0x46, 0x56, 0x4E, 0x5E]
  | .rol => [0x2A, 0x26, 0x36, 0x2E, 0x3E]
  | .ror => [0x6A, 0x66, 0x76, 0x6E, 0x7E]
  | .and => [0x29, 0x25, 0x35, 0x2D, 0x3D, 0x39, 0x21, 0x31]
  | .ora => [0x09, 0x05, 0x15, 0x0D, 0x1D, 0x19, 0x01, 0x11]
  | .eor => [0x49, 0x45, 0x55, 0x4D, 0x5D, 0x59, 0x41, 0x51]
  | .bit => [0x24, 0x2C]
  | .cmp => [0xC9, 0xC5, 0xD5, 0xCD, 0xDD, 0xD9, 0xC1, 0xD1]
  | .cpx => [0xE0, 0xE4, 0xEC]
  | .cpy => [0xC0, 0xC4, 0xCC]
  | .bcc => [0x90]
  | .bcs => [0xB0]
  | .beq => [0xF0]
  | .bne => [0xD0]
  | .bpl => [0x10]
  | .bmi => [0x30]
  | .bvc => [0x50]
  | .bvs => [0x70]
  | .jmp => [0x4C, 0x6C]
  | .jsr => [0x20]
  | .rts => [0x60]
  | .brk => [0x00]
  | .rti => [0x40]
  | .pha => [0x48]
  | .php => [0x08]
  | .pla => [0x68]
  | .plp => [0x28]
  | .clc => [0x18]
  | .sec => [0x38]
  | .cli => [0x58]
  | .sei => [0x78]
  | .cld => [0xD8]
  | .sed => [0xF8]
  | .clv => [0xB8]
  | .nop => [0xEA]

/-- The instruction has an operand form its rule lists, under the opcode byte the rule gives that form
(the bytes are PRESUMED, entry 13). -/
def EncodedByRule (i : Instr) : Prop := (i.mode, i.opcode) ∈ (acceptedModes i.mnemonic).zip (ruleOpcodes i.mnemonic)

/-- The instructions that write a flag (R30 to R36, and R26 for B). -/
def flagWriters : Flag → List Mnemonic
  | .c => [.adc, .sbc, .cmp, .cpx, .cpy, .asl, .lsr, .rol, .ror, .clc, .sec, .plp, .rti]
  | .z | .n => [.lda, .ldx, .ldy, .tax, .txa, .tay, .tya, .tsx, .adc, .sbc, .inc, .dec, .inx, .dex, .iny, .dey,
      .asl, .lsr, .rol, .ror, .and, .ora, .eor, .pla, .cmp, .cpx, .cpy, .bit, .plp, .rti]
  | .v => [.adc, .sbc, .bit, .clv, .plp, .rti]
  | .i => [.sei, .cli, .brk, .plp, .rti]
  | .d => [.sed, .cld, .plp, .rti]
  | .b => [.rti]

/-- The instructions that write a register (the table of R20); the shifts and rotates write AC in Accumulator mode only. -/
def registerWriters : Reg → List Mnemonic
  | .ac => [.lda, .pla, .txa, .tya, .adc, .sbc, .and, .ora, .eor, .asl, .lsr, .rol, .ror]
  | .x => [.ldx, .tax, .tsx, .inx, .dex]
  | .y => [.ldy, .tay, .iny, .dey]
  | .sp => [.txs, .jsr, .rts, .brk, .rti, .pha, .pla, .php, .plp]

/-- The shifts and rotates, which read and write AC or memory (R170). -/
def shiftMnemonics : List Mnemonic := [.asl, .lsr, .rol, .ror]

/-- The instructions that write memory in every mode they have (R54). -/
def storeMnemonics : List Mnemonic := [.sta, .stx, .sty, .inc, .dec, .jsr, .brk, .pha, .php]

/-- The control-flow instructions, which set PC themselves (R118). -/
def controlMnemonics : List Mnemonic :=
  [.bcc, .bcs, .beq, .bne, .bpl, .bmi, .bvc, .bvs, .jmp, .jsr, .rts, .brk, .rti]

/-- The invariant of every state the core reaches: the memory is in canonical form, bit 5 of Status is 0 (R25), and a recorded
error is an InvalidOpcode, raised after the first Reset, whose byte still stands where it was fetched and has no table entry
(R240, R241). -/
structure State.Inv (s : State) : Prop where
  memory_canonical : Memory.wf s.mem = true
  unused_clear : s.unused = false
  fault_precise : ∀ f, s.fault = some f →
    s.resetDone = true ∧ ∃ pc, f = .invalidOpcode (memRead pc s) pc ∧ lookupOpcode (memRead pc s) = none

/-- Everything but PC and memory is unchanged, save the named registers and flags: bit 5 of Status, the two hidden pieces of
R38 and the parameters of R10 are unchanged in any case. -/
structure Frame (regs : List Reg) (flags : List Flag) (s t : State) : Prop where
  reg_kept : ∀ r, r ∉ regs → t.reg r = s.reg r
  flag_kept : ∀ f, f ∉ flags → t.flag f = s.flag f
  unused_kept : t.unused = s.unused
  resetDone_kept : t.resetDone = s.resetDone
  fault_kept : t.fault = s.fault
  config_kept : t.config = s.config

/-- Every byte of memory outside these addresses reads as before. -/
def MemoryKeptExcept (stored : List Word) (s t : State) : Prop := ∀ a, a ∉ stored → memRead a t = memRead a s

/-- Every byte of memory reads as before. -/
def MemoryKept (s t : State) : Prop := ∀ a, memRead a t = memRead a s

/-- PC after a sequential instruction: `PC + op.nbytes + 1` (R118). -/
def nextPC (i : Instr) (s : State) : Word := s.pc + BitVec.ofNat 16 i.length

/-- The operand byte of an instruction, `Operand()` of R116 for its resolved operand. -/
def operandOf (i : Instr) (s : State) : Byte := operandByte (resolve i.operand s) s

/-- The address, or jump target, an instruction's operand resolves to: `op.val` of R101. -/
def addressOf (i : Instr) (s : State) : Word := (resolve i.operand s).val

/-- A byte read as -128..127, the `sint` of R158. -/
def signedValue (b : Byte) : Int := b.toInt

/-- The states the host can bring a core to, from construction with any parameters and a memory image in canonical form, by
any calls in any order (R8, R255). -/
inductive Reachable : State → Prop where
  | construct (cfg : Config) (spInit : Byte) (image : Memory) (h : Memory.wf image = true) :
      Reachable (State.construct cfg spInit image)
  | call (c : HostCall) {s : State} (h : Reachable s) : Reachable (call c s).1

end Sys2Proof.Machine
end

