-- ==== Sys2Proof/Certificates/Slice0/Obligations.lean ====
section
/-! DEFINITION. The statements about the model, from the numbered rules of spec/. -/

open Sys2Proof Sys2Proof.Machine

/-! ## Encoding and decoding (30_encoding.md) -/

/-- Decoding the bytes of any instruction, whatever follows them, gives back that instruction and what follows. -/
def Obligations.DecodeOfEncodeIsIdentity : Prop :=
  ∀ (i : Instr) (rest : List Byte), decode (encode i ++ rest) = .ok (i, rest)

/-- Encoding what was decoded gives back the bytes: no two byte strings are one instruction. -/
def Obligations.EncodeOfDecodeIsIdentity : Prop :=
  ∀ (bytes : List Byte) (i : Instr) (rest : List Byte), decode bytes = .ok (i, rest) → encode i ++ rest = bytes

/-- R85: exactly the 105 listed bytes are invalid, whatever bytes follow; every other opcode byte begins an instruction.
The list rests on the opcode map of general knowledge (D12; entry 13). -/
def Obligations.InvalidBytesAreTheListed105 : Prop :=
  unassignedBytes.length = 105 ∧
  ∀ (b b1 b2 : Byte) (rest : List Byte),
    (b ∈ unassignedBytes → decode (b :: b1 :: b2 :: rest) = .error (.invalidOpcode b)) ∧
    (b ∉ unassignedBytes → ∃ i r, decode (b :: b1 :: b2 :: rest) = .ok (i, r))

/-- R82: the length of an instruction is 1 plus the operand bytes of its mode, and the opcode byte alone decides it. -/
def Obligations.LengthFollowsFromModeAndOpcode : Prop :=
  (∀ i : Instr, (encode i).length = 1 + i.mode.nbytes) ∧
  (∀ m : Mode, m.nbytes =
    if m ∈ [Mode.implicit, .accumulator] then 0
    else if m ∈ [Mode.absolute, .absoluteX, .absoluteY, .indirect] then 2 else 1) ∧
  (∀ (b : Byte) (bs bs' : List Byte) (i i' : Instr) (r r' : List Byte),
    decode (b :: bs) = .ok (i, r) → decode (b :: bs') = .ok (i', r') → (encode i).length = (encode i').length)

/-- R119 with the operand and encoding lines of R130 to R224: an instruction has an operand form its rule lists, under the
opcode the rule gives that form; every such form is an instruction; an encoding is the opcode and the operand bytes; the
operand count of an opcode is that of its mode (R84, D13); and none that uses its operand as a write address or a jump target
has a mode whose operand is a direct value. The opcodes rest on the map of general knowledge (D12; entry 13). -/
def Obligations.OperandsFitTheirInstructions : Prop :=
  (∀ i : Instr, EncodedByRule i ∧ encode i = i.opcode :: i.operand.bytes ∧
    operandCount i.opcode = some i.mode.nbytes) ∧
  (∀ (m : Mnemonic) (mode : Mode) (b : Byte), (mode, b) ∈ (acceptedModes m).zip (ruleOpcodes m) →
    ∃ i : Instr, i.mnemonic = m ∧ i.mode = mode ∧ i.opcode = b) ∧
  (∀ (i : Instr) (s : State),
    (i.mnemonic ∈ [.sta, .stx, .sty, .jmp, .jsr, .bcc, .bcs, .beq, .bne, .bpl, .bmi, .bvc, .bvs, .inc, .dec] ∨
      (i.mnemonic ∈ shiftMnemonics ∧ i.mode ≠ .accumulator)) → (resolve i.operand s).direct = false)

/-- Words written out from the opcode table: one instruction or more of every family, and the source's own three bytes. -/
def Obligations.WrittenOutWordsDecode : Prop :=
  decode [0b10101001, 0b11111111] = .ok (.ldaImmediate 0xFF, []) ∧
  decode [0b10001101, 0b00000001, 0b11111111] = .ok (.staAbsolute 0xFF01, []) ∧
  decode [0b00000010, 0x00, 0x00] = .error (.invalidOpcode 0x02) ∧
  decode [0b01110001, 0b00010000] = .ok (.adcIndirectIndexed 0x10, []) ∧
  decode [0b01101010] = .ok (.rorAccumulator, []) ∧
  decode [0b11010000, 0b10000000] = .ok (.bne 0x80, []) ∧
  decode [0b01101100, 0b11111111, 0b00110000] = .ok (.jmpIndirect 0x30FF, []) ∧
  decode [0b01000000, 0xEA] = .ok (.rti, [0xEA])

/-! ## Step, errors and refusals (30_encoding.md section 5, 60_exceptions.md section 1) -/

/-- R88: after the first Reset and with no recorded error, Step runs the instruction that the bytes at PC decode to. -/
def Obligations.StepRunsTheDecodedInstruction : Prop :=
  ∀ (s : State) (i : Instr) (rest : List Byte), s.Ready →
    decode [memRead s.pc s, memRead (s.pc + 1) s, memRead (s.pc + 2) s] = .ok (i, rest) → step s = exec i s

/-- R240: a Step that meets a byte with no table entry raises InvalidOpcode with that byte and its address, changes no
register, flag, memory byte or PC, and records the error; nothing else makes a Step raise an error. That the error is
recorded, and that a Step raises one only after the first Reset and with none recorded, rests on the decisions D8 and D9
(entries 9 and 10). -/
def Obligations.InvalidOpcodeIsPrecise : Prop :=
  ∀ s : State,
    (s.Ready → lookupOpcode (memRead s.pc s) = none →
      step s = .fault (.invalidOpcode (memRead s.pc s) s.pc) ∧
      call .step s =
        ({ s with fault := some (.invalidOpcode (memRead s.pc s) s.pc) },
          .error (.invalidOpcode (memRead s.pc s) s.pc))) ∧
    (∀ f, step s = .fault f →
      s.Ready ∧ lookupOpcode (memRead s.pc s) = none ∧ f = .invalidOpcode (memRead s.pc s) s.pc)

/-- The spec's decision D8 (R241; entry 9): after a recorded error Step and NMI are refused and change nothing, and no host
call clears or replaces the record. -/
def Obligations.RecordedErrorIsSticky : Prop :=
  ∀ (s : State) (f : Fault), s.fault = some f → s.resetDone = true →
    call .step s = (s, .refused (.faulted f)) ∧ call .nmi s = (s, .refused (.faulted f)) ∧
    ∀ c : HostCall, (call c s).1.fault = some f

/-- The spec's decision D9 (R270; entry 10): before the first Reset, Step and NMI are refused and change nothing, whatever
else the state holds. -/
def Obligations.NothingRunsBeforeReset : Prop :=
  ∀ s : State, s.resetDone = false →
    call .step s = (s, .refused .beforeReset) ∧ call .nmi s = (s, .refused .beforeReset)

/-- R242: an instruction never ends in an error, in any state, and a Step of a running core either completes or reports
InvalidOpcode at PC. Every instruction leaves the hidden state and the parameters alone. -/
def Obligations.OnlyInvalidOpcodeStopsAStep : Prop :=
  (∀ (i : Instr) (s : State), ∃ t, exec i s = .next t ∧
    t.resetDone = s.resetDone ∧ t.fault = s.fault ∧ t.config = s.config) ∧
  (∀ s : State, s.Ready →
    (∃ t, step s = .next t) ∨ step s = .fault (.invalidOpcode (memRead s.pc s) s.pc))

/-! ## Memory and stack (20_memory.md) -/

/-- R53: a write to 0x8000..0xFFFF changes nothing; a write below 0x8000 writes that byte and no other, and no register. -/
def Obligations.WriteGuardDropsRomWrites : Prop :=
  ∀ (a : Word) (v : Byte) (s : State),
    (0x8000 ≤ a.toNat → memWrite a v s = s) ∧
    (a.toNat < 0x8000 →
      memRead a (memWrite a v s) = v ∧ MemoryKeptExcept [a] s (memWrite a v s) ∧
      Frame [] [] s (memWrite a v s) ∧ (memWrite a v s).pc = s.pc)

/-- R60, R61: a push writes the slot SP names in page 0x01, then decrements SP modulo 256; a pull increments SP modulo 256,
then reads the slot it names and writes no memory. Nothing else changes. -/
def Obligations.PushAndPullFollowSP : Prop :=
  ∀ (v : Byte) (s : State),
    (∃ a : Word, a.toNat = 0x0100 + s.sp.toNat ∧
      memRead a (push v s) = v ∧ MemoryKeptExcept [a] s (push v s) ∧
      (push v s).sp.toNat = (s.sp.toNat + 255) % 256 ∧
      Frame [.sp] [] s (push v s) ∧ (push v s).pc = s.pc) ∧
    (∃ a : Word, a.toNat = 0x0100 + (s.sp.toNat + 1) % 256 ∧
      pullByte s = memRead a s ∧ (pulled s).sp.toNat = (s.sp.toNat + 1) % 256 ∧
      Frame [.sp] [] s (pulled s) ∧ (pulled s).pc = s.pc ∧ MemoryKept s (pulled s))

/-- Every instruction but the storing ones of R54, and the shifts and rotates on AC, leaves every byte of memory alone. -/
def Obligations.OnlyStoringInstructionsWriteMemory : Prop :=
  ∀ (i : Instr) (s t : State), i.mnemonic ∉ storeMnemonics → (i.mnemonic ∈ shiftMnemonics → i.mode = .accumulator) →
    exec i s = .next t → MemoryKept s t

/-- After the first Reset no host call, a Step of any instruction among them, changes a byte of 0x8000..0xFFFF
(R53, R57, R69). -/
def Obligations.RomNeverChangesAfterReset : Prop :=
  ∀ (c : HostCall) (s : State) (a : Word), s.resetDone = true → 0x8000 ≤ a.toNat →
    memRead a (call c s).1 = memRead a s

/-! ## The invariant -/

/-- A Step keeps the invariant: memory in canonical form, bit 5 of Status 0, a recorded error precise. -/
def Obligations.StepKeepsTheInvariant : Prop :=
  ∀ s t : State, s.Inv → step s = .next t → t.Inv

/-- The state after reset meets the invariant. -/
def Obligations.ResetMeetsTheInvariant : Prop := State.reset.Inv

/-- Every state the host can bring the core to, from any parameters and any canonical memory image by any calls in any
order, meets the invariant; so bit 5 of Status is 0 in every reachable state (R25). -/
def Obligations.ReachableStatesMeetTheInvariant : Prop :=
  ∀ s : State, Reachable s → s.Inv

/-! ## Addressing (40_addressing.md): the operand bytes are those at PC + 1 and PC + 2 -/

/-- R102, R103, R104, R111, R113: the resolvers of the modes that read at most one operand byte and no pointer. -/
def Obligations.ByteOperandsResolve : Prop :=
  ∀ (s : State) (i : Instr) (rest : List Byte), decode (fetchBytes s) = .ok (i, rest) →
    let b := memRead (s.pc + 1) s
    let op := resolve i.operand s
    (i.mode = .immediate → op.val.toNat = b.toNat ∧ op.nbytes = 1 ∧ op.direct = true) ∧
    (i.mode = .zeroPage → op.val.toNat = b.toNat ∧ op.nbytes = 1 ∧ op.direct = false) ∧
    (i.mode = .zeroPageX → op.val.toNat = (b.toNat + s.x.toNat) % 256 ∧ op.nbytes = 1 ∧ op.direct = false) ∧
    (i.mode = .zeroPageY → op.val.toNat = (b.toNat + s.y.toNat) % 256 ∧ op.nbytes = 1 ∧ op.direct = false) ∧
    (i.mode = .accumulator → op.val.toNat = s.ac.toNat ∧ op.nbytes = 0 ∧ op.direct = true) ∧
    (i.mode = .implicit → op.val.toNat = 0 ∧ op.nbytes = 0 ∧ op.direct = false)

/-- R105, R106, R112 with the wrap of D1 (entry 6): absolute, indexed absolute and relative operands. -/
def Obligations.WordOperandsResolve : Prop :=
  ∀ (s : State) (i : Instr) (rest : List Byte), decode (fetchBytes s) = .ok (i, rest) →
    let l := memRead (s.pc + 1) s
    let h := memRead (s.pc + 2) s
    let op := resolve i.operand s
    (i.mode = .absolute → op.val.toNat = l.toNat + 256 * h.toNat ∧ op.nbytes = 2 ∧ op.direct = false) ∧
    (i.mode = .absoluteX → op.val.toNat = (l.toNat + 256 * h.toNat + s.x.toNat) % 65536 ∧
      op.nbytes = 2 ∧ op.direct = false) ∧
    (i.mode = .absoluteY → op.val.toNat = (l.toNat + 256 * h.toNat + s.y.toNat) % 65536 ∧
      op.nbytes = 2 ∧ op.direct = false) ∧
    (i.mode = .relative → (op.val.toNat : Int) = ((s.pc.toNat : Int) + 2 + l.toInt) % 65536 ∧
      op.nbytes = 1 ∧ op.direct = false)

/-- R55, R107, R108, R109, R110 with the wrap of D1 and no page bug of D3 (entries 6 and 7): a word in memory has its low byte
at the lower address, and the modes that read a pointer. The high byte of a zero-page pointer at 0xFF is read at 0x0100 or at
0x0000 as the parameter says (D2; entry 4). -/
def Obligations.PointerOperandsResolve : Prop :=
  (∀ (a : Word) (s : State),
    (memRead16 a s).toNat =
      (memRead a s).toNat + 256 * (memRead (BitVec.ofNat 16 ((a.toNat + 1) % 65536)) s).toNat) ∧
  (∀ (zp : Byte) (s : State), ∃ a : Word,
    a.toNat = (if zp = 0xFF then (if s.config.zpPtrWrap = .linear then 0x0100 else 0x0000) else zp.toNat + 1) ∧
    (zpRead16 zp s).toNat = (memRead (BitVec.ofNat 16 zp.toNat) s).toNat + 256 * (memRead a s).toNat) ∧
  ∀ (s : State) (i : Instr) (rest : List Byte), decode (fetchBytes s) = .ok (i, rest) →
    let b := memRead (s.pc + 1) s
    let ptr := memRead16 (s.pc + 1) s
    let op := resolve i.operand s
    (i.mode = .indirect → op.val = memRead16 ptr s ∧ op.nbytes = 2 ∧ op.direct = false) ∧
    (i.mode = .indexedIndirect →
      op.val = zpRead16 (BitVec.ofNat 8 ((b.toNat + s.x.toNat) % 256)) s ∧ op.nbytes = 1 ∧ op.direct = false) ∧
    (i.mode = .indirectIndexed →
      op.val.toNat = ((zpRead16 b s).toNat + s.y.toNat) % 65536 ∧ op.nbytes = 1 ∧ op.direct = false)

/-- R116: the operand byte is the value itself in Immediate and Accumulator mode, and the byte at the address in the others. -/
def Obligations.OperandByteFollowsTheMode : Prop :=
  ∀ (i : Instr) (s : State),
    (∀ imm, i.operand = .immediate imm → operandOf i s = imm) ∧
    (i.mode = .accumulator → operandOf i s = s.ac) ∧
    (i.mode ≠ .immediate → i.mode ≠ .accumulator → operandOf i s = memRead (addressOf i s) s)

/-- R118: every instruction but the branches, JMP, JSR, RTS, BRK and RTI advances PC past its own bytes.
PC arithmetic past 0xFFFF rests on the wrap of D1 (entry 6). -/
def Obligations.SequentialInstructionsAdvancePC : Prop :=
  ∀ (i : Instr) (s : State), i.mnemonic ∉ controlMnemonics →
    ∃ t, exec i s = .next t ∧ t.pc.toNat = (s.pc.toNat + i.mode.nbytes + 1) % 65536

/-! ## Which instructions write which register and flag (10_state.md) -/

/-- R20's table: an instruction leaves alone every register it is not listed under. -/
def Obligations.OnlyListedInstructionsWriteARegister : Prop :=
  ∀ (i : Instr) (s t : State) (r : Reg), i.mnemonic ∉ registerWriters r → exec i s = .next t → t.reg r = s.reg r

/-- R26, R30 to R36: an instruction leaves alone every flag it is not listed under. -/
def Obligations.OnlyListedInstructionsWriteAFlag : Prop :=
  ∀ (i : Instr) (s t : State) (f : Flag), i.mnemonic ∉ flagWriters f → exec i s = .next t → t.flag f = s.flag f

/-- R25, R26: no instruction sets B or bit 5 of Status; RTI clears both and every other instruction keeps both. -/
def Obligations.NoInstructionSetsBOrBitFive : Prop :=
  ∀ (i : Instr) (s t : State), exec i s = .next t →
    t.flag .b = (if i.mnemonic = .rti then false else s.flag .b) ∧
    t.unused = (if i.mnemonic = .rti then false else s.unused)

/-- R35, R36, R158 (D10; entry 11): D and I gate nothing. Two runs of one instruction from states that differ only in one of
these flags end in states that differ at most in that flag; PHP and BRK are left out, because they store Status in memory. -/
def Obligations.DecimalAndInterruptFlagsGateNothing : Prop :=
  ∀ (i : Instr) (s t u : State) (f : Flag) (b : Bool), f ∈ [Flag.d, .i] → i.mnemonic ∉ [.php, .brk] →
    exec i s = .next t → exec i (s.setFlag f b) = .next u → u.setFlag f b = t.setFlag f b

/-! ## Loads, stores and transfers (41_load_store_transfer.md) -/

/-- R130, R131, R132: LDA, LDX and LDY in every mode copy the operand to their register and set Z and N from it.
The opcode bytes rest on the map of general knowledge (D12; entry 13). -/
def Obligations.LoadsCopyTheOperand : Prop :=
  ∀ (i : Instr) (s : State) (r : Reg), (i.mnemonic, r) ∈ [(Mnemonic.lda, Reg.ac), (.ldx, .x), (.ldy, .y)] →
    EncodedByRule i ∧ ∃ t, exec i s = .next t ∧ t.reg r = operandOf i s ∧
      t.flag .z = (operandOf i s == 0) ∧ t.flag .n = (operandOf i s).getLsbD 7 ∧
      t.pc = nextPC i s ∧ Frame [r] [.z, .n] s t ∧ MemoryKept s t

/-- R133, R134, R135: STA, STX and STY in every mode write their register at the resolved address, where the write guard
allows it, and change nothing else but PC.
The opcode bytes rest on the map of general knowledge (D12; entry 13). -/
def Obligations.StoresWriteTheRegister : Prop :=
  ∀ (i : Instr) (s : State) (r : Reg), (i.mnemonic, r) ∈ [(Mnemonic.sta, Reg.ac), (.stx, .x), (.sty, .y)] →
    EncodedByRule i ∧ ∃ t, exec i s = .next t ∧
      memRead (addressOf i s) t =
        (if (addressOf i s).toNat < 0x8000 then s.reg r else memRead (addressOf i s) s) ∧
      MemoryKeptExcept [addressOf i s] s t ∧ t.pc = nextPC i s ∧ Frame [] [] s t

/-- R136 to R141: the register transfers copy the source to the destination and, but for TXS, set Z and N from it.
The opcode bytes rest on the map of general knowledge (D12; entry 13). -/
def Obligations.TransfersCopyARegister : Prop :=
  ∀ (i : Instr) (s : State) (src dst : Reg),
    (i, src, dst) ∈ [(Instr.tax, Reg.ac, Reg.x), (.txa, .x, .ac), (.tay, .ac, .y), (.tya, .y, .ac),
      (.tsx, .sp, .x), (.txs, .x, .sp)] →
    EncodedByRule i ∧ ∃ t, exec i s = .next t ∧ t.reg dst = s.reg src ∧
      (i ≠ .txs → t.flag .z = (s.reg src == 0) ∧ t.flag .n = (s.reg src).getLsbD 7) ∧
      t.pc = s.pc + 1 ∧ Frame [dst] (if i = .txs then [] else [.z, .n]) s t ∧ MemoryKept s t

/-! ## Arithmetic (42_arithmetic.md) -/

/-- R150: ADC in every mode.
The opcode bytes rest on the map of general knowledge (D12; entry 13). -/
def Obligations.AdcAddsWithCarry : Prop :=
  ∀ (i : Instr) (s : State), i.mnemonic = .adc →
    let v := operandOf i s
    let sum := s.ac.toNat + v.toNat + (if s.flag .c = true then 1 else 0)
    EncodedByRule i ∧ ∃ t, exec i s = .next t ∧ t.ac.toNat = sum % 256 ∧ t.flag .c = decide (sum > 255) ∧
      t.flag .v = ((t.ac ^^^ s.ac) &&& (t.ac ^^^ v) &&& 0x80 != 0) ∧
      t.flag .z = (t.ac == 0) ∧ t.flag .n = t.ac.getLsbD 7 ∧
      t.pc = nextPC i s ∧ Frame [.ac] [.c, .v, .z, .n] s t ∧ MemoryKept s t

/-- R151 in the reading of D22 (entry 15): SBC in every mode. C is 1 when no borrow was needed. -/
def Obligations.SbcSubtractsWithBorrow : Prop :=
  ∀ (i : Instr) (s : State), i.mnemonic = .sbc →
    let v := operandOf i s
    let difference := (s.ac.toNat : Int) - (v.toNat : Int) - (if s.flag .c = true then 0 else 1)
    ∃ t, exec i s = .next t ∧ (t.ac.toNat : Int) = difference % 256 ∧ t.flag .c = decide (0 ≤ difference) ∧
      t.flag .v = ((t.ac ^^^ s.ac) &&& (t.ac ^^^ ~~~v) &&& 0x80 != 0) ∧
      t.flag .z = (t.ac == 0) ∧ t.flag .n = t.ac.getLsbD 7 ∧
      t.pc = nextPC i s ∧ Frame [.ac] [.c, .v, .z, .n] s t ∧ MemoryKept s t

/-- R158: after ADC and SBC, V says exactly that the signed result lies outside -128..127. -/
def Obligations.OverflowIsSignedRange : Prop :=
  ∀ (i : Instr) (s t : State), exec i s = .next t →
    let a := signedValue s.ac
    let v := signedValue (operandOf i s)
    (i.mnemonic = .adc →
      let r := a + v + (if s.flag .c = true then 1 else 0)
      t.flag .v = decide (r < -128 ∨ 127 < r)) ∧
    (i.mnemonic = .sbc →
      let r := a - v - (if s.flag .c = true then 0 else 1)
      t.flag .v = decide (r < -128 ∨ 127 < r))

/-- R152, R153: INC and DEC in every mode write the operand plus or minus 1 modulo 256 back, where the write guard allows
it, and set Z and N from it in any case.
The opcode bytes rest on the map of general knowledge (D12; entry 13). -/
def Obligations.IncrementsAndDecrementsOfMemory : Prop :=
  ∀ (i : Instr) (s : State) (delta : Nat), (i.mnemonic, delta) ∈ [(Mnemonic.inc, 1), (.dec, 255)] →
    EncodedByRule i ∧ ∃ (t : State) (r : Byte), r.toNat = ((memRead (addressOf i s) s).toNat + delta) % 256 ∧
      exec i s = .next t ∧
      memRead (addressOf i s) t = (if (addressOf i s).toNat < 0x8000 then r else memRead (addressOf i s) s) ∧
      MemoryKeptExcept [addressOf i s] s t ∧ t.flag .z = (r == 0) ∧ t.flag .n = r.getLsbD 7 ∧
      t.pc = nextPC i s ∧ Frame [] [.z, .n] s t

/-- R154 to R157: INX, DEX, INY and DEY count modulo 256 and set Z and N.
The opcode bytes rest on the map of general knowledge (D12; entry 13). -/
def Obligations.IndexRegistersCountModulo256 : Prop :=
  ∀ (i : Instr) (s : State) (r : Reg) (delta : Nat),
    (i, r, delta) ∈ [(Instr.inx, Reg.x, 1), (.dex, .x, 255), (.iny, .y, 1), (.dey, .y, 255)] →
    EncodedByRule i ∧ ∃ t, exec i s = .next t ∧ (t.reg r).toNat = ((s.reg r).toNat + delta) % 256 ∧
      t.flag .z = (t.reg r == 0) ∧ t.flag .n = (t.reg r).getLsbD 7 ∧
      t.pc = s.pc + 1 ∧ Frame [r] [.z, .n] s t ∧ MemoryKept s t

/-! ## Shifts, logic and compares (43_shift_logic_compare.md) -/

/-- R171 to R174: ASL, LSR, ROL and ROR, first on AC, then on a memory byte, where the result is written back if the write
guard allows it, and C, Z and N follow it in any case.
The opcode bytes rest on the map of general knowledge (D12; entry 13). -/
def Obligations.ShiftsAndRotatesMoveOneBit : Prop :=
  (∀ (i : Instr) (s : State) (r : Nat) (out : Bool),
    let v := s.ac.toNat
    let c := if s.flag .c = true then 1 else 0
    (i, r, out) ∈ [(Instr.aslAccumulator, 2 * v % 256, decide (128 ≤ v)), (.lsrAccumulator, v / 2, decide (v % 2 = 1)),
      (.rolAccumulator, (2 * v + c) % 256, decide (128 ≤ v)), (.rorAccumulator, v / 2 + 128 * c, decide (v % 2 = 1))] →
    EncodedByRule i ∧ ∃ t, exec i s = .next t ∧ t.ac.toNat = r ∧ t.flag .c = out ∧ t.flag .z = (t.ac == 0) ∧
      t.flag .n = t.ac.getLsbD 7 ∧ t.pc = s.pc + 1 ∧ Frame [.ac] [.c, .z, .n] s t ∧ MemoryKept s t) ∧
  (∀ (i : Instr) (s : State) (r : Nat) (out : Bool), i.mode ≠ .accumulator →
    let v := (memRead (addressOf i s) s).toNat
    let c := if s.flag .c = true then 1 else 0
    (i.mnemonic, r, out) ∈ [(Mnemonic.asl, 2 * v % 256, decide (128 ≤ v)), (.lsr, v / 2, decide (v % 2 = 1)),
      (.rol, (2 * v + c) % 256, decide (128 ≤ v)), (.ror, v / 2 + 128 * c, decide (v % 2 = 1))] →
    EncodedByRule i ∧ ∃ t, exec i s = .next t ∧
      memRead (addressOf i s) t =
        (if (addressOf i s).toNat < 0x8000 then BitVec.ofNat 8 r else memRead (addressOf i s) s) ∧
      MemoryKeptExcept [addressOf i s] s t ∧ t.flag .c = out ∧ t.flag .z = decide (r = 0) ∧
      t.flag .n = decide (128 ≤ r) ∧ t.pc = nextPC i s ∧ Frame [] [.c, .z, .n] s t)

/-- R175, R176, R177: AND, ORA and EOR in every mode, bit by bit.
The opcode bytes rest on the map of general knowledge (D12; entry 13). -/
def Obligations.LogicCombinesBitwiseWithAC : Prop :=
  ∀ (i : Instr) (s : State) (f : Bool → Bool → Bool),
    (i.mnemonic = .and ∧ f = and ∨ i.mnemonic = .ora ∧ f = or ∨ i.mnemonic = .eor ∧ f = xor) →
    EncodedByRule i ∧ ∃ t, exec i s = .next t ∧
      (∀ k, k < 8 → t.ac.getLsbD k = f (s.ac.getLsbD k) ((operandOf i s).getLsbD k)) ∧
      t.flag .z = (t.ac == 0) ∧ t.flag .n = t.ac.getLsbD 7 ∧
      t.pc = nextPC i s ∧ Frame [.ac] [.z, .n] s t ∧ MemoryKept s t

/-- R178: BIT in every mode sets Z from `AC & value`, V and N from bits 6 and 7 of the value, and changes no register.
The opcode bytes rest on the map of general knowledge (D12; entry 13). -/
def Obligations.BitTestsWithoutChangingAC : Prop :=
  ∀ (i : Instr) (s : State), i.mnemonic = .bit →
    EncodedByRule i ∧ ∃ t, exec i s = .next t ∧ t.flag .z = (s.ac &&& operandOf i s == 0) ∧
      t.flag .v = (operandOf i s).getLsbD 6 ∧ t.flag .n = (operandOf i s).getLsbD 7 ∧
      t.pc = nextPC i s ∧ Frame [] [.z, .v, .n] s t ∧ MemoryKept s t

/-- R179 to R182: CMP, CPX and CPY in every mode: C is unsigned `>=`, Z equality, N bit 7 of the difference modulo 256.
The opcode bytes rest on the map of general knowledge (D12; entry 13). -/
def Obligations.ComparesSetCarryZeroNegative : Prop :=
  ∀ (i : Instr) (s : State) (r : Reg), (i.mnemonic, r) ∈ [(Mnemonic.cmp, Reg.ac), (.cpx, .x), (.cpy, .y)] →
    let a := (s.reg r).toNat
    let v := (operandOf i s).toNat
    EncodedByRule i ∧ ∃ t, exec i s = .next t ∧ t.flag .c = decide (v ≤ a) ∧ t.flag .z = decide (a = v) ∧
      t.flag .n = decide (128 ≤ (a + 256 - v) % 256) ∧
      t.pc = nextPC i s ∧ Frame [] [.c, .z, .n] s t ∧ MemoryKept s t

/-! ## Control transfer (44_control_transfer.md) -/

/-- R190 to R198 with the pairing of D20 and the wrap of D1 (entries 14 and 6): each branch goes to PC + 2 plus its signed
offset when its flag is as its mnemonic says, else to PC + 2, and changes nothing else. -/
def Obligations.BranchesTestOneFlag : Prop :=
  ∀ (i : Instr) (s : State) (off : Byte) (f : Flag) (expect : Bool),
    (i, f, expect) ∈ [(Instr.bcc off, Flag.c, false), (.bcs off, .c, true), (.beq off, .z, true), (.bne off, .z, false),
      (.bpl off, .n, false), (.bmi off, .n, true), (.bvc off, .v, false), (.bvs off, .v, true)] →
    ∃ t, exec i s = .next t ∧
      (t.pc.toNat : Int) =
        (if s.flag f = expect then (s.pc.toNat : Int) + 2 + off.toInt else (s.pc.toNat : Int) + 2) % 65536 ∧
      Frame [] [] s t ∧ MemoryKept s t

/-- R199: JMP goes to its resolved address, the operand word or the word at the pointer, and changes nothing else. -/
def Obligations.JumpGoesToItsTarget : Prop :=
  ∀ (i : Instr) (s : State), i.mnemonic = .jmp →
    ∃ t, exec i s = .next t ∧ t.pc = addressOf i s ∧
      (∀ w, i.operand = .absolute w → t.pc = w) ∧
      (∀ p, i.operand = .indirect p → t.pc.toNat = (memRead p s).toNat + 256 * (memRead (p + 1) s).toNat) ∧
      Frame [] [] s t ∧ MemoryKept s t

/-- R200: JSR pushes PC + 2, high byte first, and goes to its address. The opcode bytes rest on the map of general knowledge
(D12; entry 13), and PC arithmetic past 0xFFFF on the wrap of D1 (entry 6). -/
def Obligations.JsrPushesItsLastByteAddress : Prop :=
  ∀ (addr : Word) (s : State),
    let high := stackAddr s.sp
    let low := stackAddr (s.sp - 1)
    let ret := (s.pc.toNat + 2) % 65536
    EncodedByRule (.jsr addr) ∧ ∃ t, exec (.jsr addr) s = .next t ∧ t.pc = addr ∧ t.sp = s.sp - 2 ∧
      (memRead high t).toNat = ret / 256 ∧ (memRead low t).toNat = ret % 256 ∧
      MemoryKeptExcept [high, low] s t ∧ Frame [.sp] [] s t

/-- R201: RTS pulls a word, low byte first, and goes one past it. The opcode bytes rest on the map of general knowledge (D12;
entry 13), and PC arithmetic past 0xFFFF on the wrap of D1 (entry 6). -/
def Obligations.RtsPullsAndAddsOne : Prop :=
  EncodedByRule .rts ∧ ∀ s : State, ∃ t, exec .rts s = .next t ∧
    t.pc.toNat =
      ((memRead (stackAddr (s.sp + 1)) s).toNat + 256 * (memRead (stackAddr (s.sp + 2)) s).toNat + 1) % 65536 ∧
    t.sp = s.sp + 2 ∧ Frame [.sp] [] s t ∧ MemoryKept s t

/-- A call returns: after JSR, an RTS from any state whose SP and two stack bytes are those the JSR left goes to the JSR's
address + 3 with SP as before the JSR, whatever the subroutine did otherwise (R201, R202).
PC arithmetic past 0xFFFF rests on the wrap of D1 (entry 6). -/
def Obligations.CallThenReturnComesBack : Prop :=
  ∀ (addr : Word) (s t body : State), exec (.jsr addr) s = .next t → body.sp = t.sp →
    memRead (stackAddr s.sp) body = memRead (stackAddr s.sp) t →
    memRead (stackAddr (s.sp - 1)) body = memRead (stackAddr (s.sp - 1)) t →
    ∃ u, exec .rts body = .next u ∧ u.pc = s.pc + 3 ∧ u.sp = s.sp ∧ Frame [.sp] [] body u ∧ MemoryKept body u

/-! ## Interrupts (45_interrupt_stack_flags.md section 1, 60_exceptions.md section 2) -/

/-- R210: BRK pushes PC + 2 and `Status | 0x30`, sets I and takes PC from 0xFFFE, in every state. The opcode bytes rest on
the map of general knowledge (D12; entry 13), and PC arithmetic past 0xFFFF on the wrap of D1 (entry 6). -/
def Obligations.BrkEntersThroughItsVector : Prop :=
  EncodedByRule .brk ∧ ∀ s : State,
    let a0 := stackAddr s.sp
    let a1 := stackAddr (s.sp - 1)
    let a2 := stackAddr (s.sp - 2)
    let ret := (s.pc.toNat + 2) % 65536
    ∃ t, exec .brk s = .next t ∧ (memRead a0 t).toNat = ret / 256 ∧ (memRead a1 t).toNat = ret % 256 ∧
      memRead a2 t = s.status ||| 0x30 ∧ MemoryKeptExcept [a0, a1, a2] s t ∧ t.sp = s.sp - 3 ∧
      t.flag .i = true ∧ t.pc.toNat = (memRead 0xFFFE s).toNat + 256 * (memRead 0xFFFF s).toNat ∧
      Frame [.sp] [.i] s t

/-- R245 in the reading of D11 (entry 12): NMI on a running core pushes PC and Status as they stand, sets I and takes PC from
0xFFFA, whatever I holds. -/
def Obligations.NmiEntersThroughItsVector : Prop :=
  ∀ s : State, s.Ready →
    let a0 := stackAddr s.sp
    let a1 := stackAddr (s.sp - 1)
    let a2 := stackAddr (s.sp - 2)
    ∃ t, nmi s = .next t ∧ (memRead a0 t).toNat = s.pc.toNat / 256 ∧ (memRead a1 t).toNat = s.pc.toNat % 256 ∧
      memRead a2 t = s.status ∧ MemoryKeptExcept [a0, a1, a2] s t ∧ t.sp = s.sp - 3 ∧
      t.flag .i = true ∧ t.pc.toNat = (memRead 0xFFFA s).toNat + 256 * (memRead 0xFFFB s).toNat ∧
      Frame [.sp] [.i] s t

/-- R211: RTI restores Status from the stack with B and bit 5 cleared, then PC with no + 1.
The opcode bytes rest on the map of general knowledge (D12; entry 13),
and the clearing of B and bit 5 in every case on C1 (entry 16). -/
def Obligations.RtiRestoresStatusAndPC : Prop :=
  EncodedByRule .rti ∧ ∀ s : State, ∃ t, exec .rti s = .next t ∧ t.status = memRead (stackAddr (s.sp + 1)) s &&& 0xCF ∧
    t.pc.toNat = (memRead (stackAddr (s.sp + 2)) s).toNat + 256 * (memRead (stackAddr (s.sp + 3)) s).toNat ∧
    t.sp = s.sp + 3 ∧ t.flag .b = false ∧ t.unused = false ∧
    (∀ r, r ≠ .sp → t.reg r = s.reg r) ∧ t.resetDone = s.resetDone ∧ t.fault = s.fault ∧ t.config = s.config ∧
    MemoryKept s t

/-- BRK then RTI: an RTI from any state whose SP and three frame bytes are those the BRK left goes to the BRK's address + 2
with SP and every flag as before the BRK, but for B and bit 5, which are 0 (R211, C1; entry 16). -/
def Obligations.BreakThenReturnRestores : Prop :=
  ∀ s t handler : State, exec .brk s = .next t → handler.sp = t.sp →
    (∀ k, k ∈ [0, 1, 2] → memRead (stackAddr (s.sp - k)) handler = memRead (stackAddr (s.sp - k)) t) →
    ∃ u, exec .rti handler = .next u ∧ u.pc = s.pc + 2 ∧ u.sp = s.sp ∧ u.flag .b = false ∧ u.unused = false ∧
      (∀ f, f ≠ .b → u.flag f = s.flag f) ∧ (∀ r, r ≠ .sp → u.reg r = handler.reg r) ∧ MemoryKept handler u

/-- R253: an NMI followed at once by RTI brings back the state before it, but for B, bit 5 and the three frame bytes. -/
def Obligations.NmiThenReturnRestores : Prop :=
  ∀ s t : State, s.Ready → nmi s = .next t →
    ∃ u, exec .rti t = .next u ∧ u.pc = s.pc ∧ Frame [] [.b] { s with status := s.status &&& 0xDF } u ∧
      u.flag .b = false ∧
      MemoryKeptExcept [stackAddr s.sp, stackAddr (s.sp - 1), stackAddr (s.sp - 2)] s u

/-! ## Stack and flag instructions, NOP (45_interrupt_stack_flags.md) -/

/-- R213, R214: PHA pushes AC, and PHP pushes `Status | 0x30`, leaving Status itself alone.
The opcode bytes rest on the map of general knowledge (D12; entry 13). -/
def Obligations.PushInstructionsWriteTheirByte : Prop :=
  ∀ (i : Instr) (s : State) (v : Byte), (i, v) ∈ [(Instr.pha, s.ac), (.php, s.status ||| 0x30)] →
    EncodedByRule i ∧ ∃ t, exec i s = .next t ∧ memRead (stackAddr s.sp) t = v ∧ MemoryKeptExcept [stackAddr s.sp] s t ∧
      t.sp = s.sp - 1 ∧ t.status = s.status ∧ t.pc = s.pc + 1 ∧ Frame [.sp] [] s t

/-- R215: PLA pulls AC, and sets Z and N from it exactly when the parameter `PLA_SETS_ZN` is true (D4; entry 5); the
statement holds for both values of the parameter. -/
def Obligations.PlaPullsAC : Prop :=
  ∀ s : State, ∃ t, exec .pla s = .next t ∧ t.ac = memRead (stackAddr (s.sp + 1)) s ∧ t.sp = s.sp + 1 ∧
    (s.config.plaSetsZN = true → t.flag .z = (t.ac == 0) ∧ t.flag .n = t.ac.getLsbD 7) ∧
    t.pc = s.pc + 1 ∧ Frame [.ac, .sp] (if s.config.plaSetsZN then [.z, .n] else []) s t ∧ MemoryKept s t

/-- R216: PLP takes every flag but B from the pulled byte, and keeps B and bit 5.
The opcode bytes rest on the map of general knowledge (D12; entry 13). -/
def Obligations.PlpKeepsBAndBitFive : Prop :=
  EncodedByRule .plp ∧ ∀ s : State, ∃ t, exec .plp s = .next t ∧ t.sp = s.sp + 1 ∧
    t.status = (memRead (stackAddr (s.sp + 1)) s &&& 0xCF) ||| (s.status &&& 0x30) ∧
    (∀ f, f ≠ .b → t.flag f = getFlag f (memRead (stackAddr (s.sp + 1)) s)) ∧
    t.pc = s.pc + 1 ∧ Frame [.sp] [.n, .v, .d, .i, .z, .c] s t ∧ MemoryKept s t

/-- PHP then PLP: a PLP from any state whose SP, stack byte, B and bit 5 are those the PHP left brings back Status whole and
SP (R216). -/
def Obligations.PhpThenPlpRestoresStatus : Prop :=
  ∀ s t later : State, exec .php s = .next t → later.sp = t.sp → later.status &&& 0x30 = s.status &&& 0x30 →
    memRead (stackAddr s.sp) later = memRead (stackAddr s.sp) t →
    ∃ u, exec .plp later = .next u ∧ u.status = s.status ∧ u.sp = s.sp

/-- R217 to R223 with the pairing of D20 (entry 14): each flag instruction writes its one flag and nothing else but PC. -/
def Obligations.FlagInstructionsWriteOneFlag : Prop :=
  ∀ (i : Instr) (s : State) (f : Flag) (b : Bool),
    (i, f, b) ∈ [(Instr.clc, Flag.c, false), (.sec, .c, true), (.cli, .i, false), (.sei, .i, true),
      (.cld, .d, false), (.sed, .d, true), (.clv, .v, false)] →
    ∃ t, exec i s = .next t ∧ t.flag f = b ∧ t.pc = s.pc + 1 ∧ Frame [] [f] s t ∧ MemoryKept s t

/-- R224: NOP changes PC and nothing else.
The opcode bytes rest on the map of general knowledge (D12; entry 13). -/
def Obligations.NopOnlyAdvancesPC : Prop :=
  EncodedByRule .nop ∧ ∀ s : State, exec .nop s = .next { s with pc := s.pc + 1 }

/-! ## Reset and the host interface (60_exceptions.md section 5, 70_reset_and_hazards.md) -/

/-- R271 with D5 (entry 8): Reset takes PC from 0xFFFC, low byte first, marks the core as reset, and changes nothing else,
a recorded error included. -/
def Obligations.ResetReadsItsVector : Prop :=
  ∀ s : State, ∃ w : Word, w.toNat = (memRead 0xFFFC s).toNat + 256 * (memRead 0xFFFD s).toNat ∧
    call .reset s = ({ s with pc := w, resetDone := true }, .ok)

/-- R272: the launch state for any parameters and any image, and the model's State.reset is the one for the values of
entries 1 to 5. -/
def Obligations.LaunchStateIsAsListed : Prop :=
  (∀ (cfg : Config) (spInit : Byte) (image : Memory),
    let s := State.launch cfg spInit image
    s.ac = 0 ∧ s.x = 0 ∧ s.y = 0 ∧ s.status = 0 ∧ s.sp = spInit ∧ s.mem = image ∧ s.config = cfg ∧
    s.pc.toNat = (memRead 0xFFFC s).toNat + 256 * (memRead 0xFFFD s).toNat ∧ s.Ready) ∧
  State.reset = State.launch Config.vectorDefaults Config.spInit []

/-- R243, R244: the accessors of the seven named flags read and write exactly their bit, and every other character fails with
InvalidFlag and changes nothing (case-sensitive and at any time, D21 and D23; entry 19). -/
def Obligations.FlagAccessorsReachSevenBits : Prop :=
  let names : List (Char × Nat) := [('N', 7), ('V', 6), ('B', 4), ('D', 3), ('I', 2), ('Z', 1), ('C', 0)]
  (∀ (s : State) (ch : Char) (k : Nat) (b : Bool), (ch, k) ∈ names →
    call (.getFlag ch) s = (s, .flag (s.status.getLsbD k)) ∧
    ∃ p : Byte, call (.setFlag ch b) s = ({ s with status := p }, .ok) ∧ p.getLsbD k = b ∧
      ∀ j, j ≠ k → p.getLsbD j = s.status.getLsbD j) ∧
  (∀ (s : State) (ch : Char) (b : Bool), (∀ k, (ch, k) ∉ names) →
    call (.getFlag ch) s = (s, .error (.invalidFlag ch)) ∧ call (.setFlag ch b) s = (s, .error (.invalidFlag ch)))

/-- R57, R255 with D17 (entry 18): before the first Reset the loader writes any byte of 0x8000..0xFFFF past the guard and
nothing else; after it, or below 0x8000, its write is refused. -/
def Obligations.LoaderFillsRomBeforeReset : Prop :=
  ∀ (a : Word) (v : Byte) (s : State),
    (s.resetDone = false → 0x8000 ≤ a.toNat →
      ∃ t, call (.load a v) s = (t, .ok) ∧ memRead a t = v ∧ MemoryKeptExcept [a] s t ∧
        Frame [] [] s t ∧ t.pc = s.pc) ∧
    (s.resetDone = true ∨ a.toNat < 0x8000 → call (.load a v) s = (s, .refused (.loaderClosed a)))
end

