-- ==== Sys2Proof/Laws/Flags.lean ====
section
/-! SUPPORT. What the flag operations do to each flag and to bit 5. -/

namespace Sys2Proof.Machine

/-- Writing one flag writes that flag and no other. -/
theorem getFlag_putFlag (f g : Flag) (b : Bool) (p : Byte) :
    getFlag g (putFlag f b p) = if g = f then b else getFlag g p := by
  cases b <;> cases f <;> cases g <;> simp [getFlag, putFlag, Flag.bit]

@[simp] theorem getFlag_putFlag_self (f : Flag) (b : Bool) (p : Byte) : getFlag f (putFlag f b p) = b := by
  simp [getFlag_putFlag]

theorem getFlag_putFlag_of_ne {f g : Flag} (h : g ≠ f) (b : Bool) (p : Byte) :
    getFlag g (putFlag f b p) = getFlag g p := by
  simp [getFlag_putFlag, h]

/-- No flag write touches bit 5. -/
@[simp] theorem unused_putFlag (f : Flag) (b : Bool) (p : Byte) : unusedBit (putFlag f b p) = unusedBit p := by
  cases b <;> cases f <;> simp [unusedBit, putFlag, Flag.bit]

/-- Two status bytes with the same seven flags and the same bit 5 are equal. -/
theorem status_ext {p q : Byte} (hf : ∀ f, getFlag f p = getFlag f q) (h5 : unusedBit p = unusedBit q) : p = q := by
  have hn := hf .n; have hv := hf .v; have hb := hf .b; have hd := hf .d
  have hi := hf .i; have hz := hf .z; have hc := hf .c
  simp only [unusedBit] at h5
  simp only [getFlag, Flag.bit] at hn hv hb hd hi hz hc
  apply BitVec.eq_of_getLsbD_eq
  intro k hk
  obtain h | h | h | h | h | h | h | h : k = 0 ∨ k = 1 ∨ k = 2 ∨ k = 3 ∨ k = 4 ∨ k = 5 ∨ k = 6 ∨ k = 7 := by omega
  all_goals subst h; assumption

theorem getFlag_putZN (g : Flag) (v p : Byte) :
    getFlag g (putZN v p) = if g = .n then negative v else if g = .z then (v == 0) else getFlag g p := by
  simp [putZN, getFlag_putFlag]

@[simp] theorem unused_putZN (v p : Byte) : unusedBit (putZN v p) = unusedBit p := by simp [putZN]

theorem getFlag_adcStatus (g : Flag) (a v p : Byte) :
    getFlag g (adcStatus a v p) =
      if g = .n then negative (adcResult a v (getFlag .c p))
      else if g = .z then adcResult a v (getFlag .c p) == 0
      else if g = .v then overflow a v (adcResult a v (getFlag .c p))
      else if g = .c then decide (addWide a v (getFlag .c p) > 255)
      else getFlag g p := by
  simp [adcStatus, getFlag_putZN, getFlag_putFlag]

@[simp] theorem unused_adcStatus (a v p : Byte) : unusedBit (adcStatus a v p) = unusedBit p := by simp [adcStatus]

theorem getFlag_sbcStatus (g : Flag) (a v p : Byte) :
    getFlag g (sbcStatus a v p) =
      if g = .n then negative (sbcResult a v (getFlag .c p))
      else if g = .z then sbcResult a v (getFlag .c p) == 0
      else if g = .v then overflow a (v ^^^ 0xFF) (sbcResult a v (getFlag .c p))
      else if g = .c then !decide (subWide a v (getFlag .c p) < 0)
      else getFlag g p := by
  simp [sbcStatus, getFlag_putZN, getFlag_putFlag]

@[simp] theorem unused_sbcStatus (a v p : Byte) : unusedBit (sbcStatus a v p) = unusedBit p := by simp [sbcStatus]

theorem getFlag_compareStatus (g : Flag) (r v p : Byte) :
    getFlag g (compareStatus r v p) =
      if g = .n then negative (r - v) else if g = .z then r == v else if g = .c then decide (v.toNat ≤ r.toNat)
      else getFlag g p := by
  simp [compareStatus, getFlag_putFlag]

@[simp] theorem unused_compareStatus (r v p : Byte) : unusedBit (compareStatus r v p) = unusedBit p := by
  simp [compareStatus]

theorem getFlag_bitStatus (g : Flag) (a v p : Byte) :
    getFlag g (bitStatus a v p) =
      if g = .n then v.getLsbD 7 else if g = .v then v.getLsbD 6 else if g = .z then a &&& v == 0
      else getFlag g p := by
  simp [bitStatus, getFlag_putFlag]

@[simp] theorem unused_bitStatus (a v p : Byte) : unusedBit (bitStatus a v p) = unusedBit p := by simp [bitStatus]

theorem getFlag_shiftStatus (g : Flag) (out : Bool) (r p : Byte) :
    getFlag g (shiftStatus out r p) =
      if g = .n then negative r else if g = .z then r == 0 else if g = .c then out else getFlag g p := by
  simp [shiftStatus, getFlag_putZN, getFlag_putFlag]

@[simp] theorem unused_shiftStatus (out : Bool) (r p : Byte) : unusedBit (shiftStatus out r p) = unusedBit p := by
  simp [shiftStatus]

/-- The pushed status byte has B set and every other flag as it stands. -/
theorem getFlag_pushedStatus (g : Flag) (p : Byte) :
    getFlag g (pushedStatus p) = if g = .b then true else getFlag g p := by
  cases g <;> simp [getFlag, pushedStatus, Flag.bit, Config.pushMask]

theorem unused_pushedStatus (p : Byte) : unusedBit (pushedStatus p) = true := by revert p; decide

/-- RTI's status byte has B clear and every other flag as pulled. -/
theorem getFlag_rtiStatus (g : Flag) (p : Byte) :
    getFlag g (rtiStatus p) = if g = .b then false else getFlag g p := by
  cases g <;> simp [getFlag, rtiStatus, Flag.bit, Config.restoreMask]

theorem unused_rtiStatus (p : Byte) : unusedBit (rtiStatus p) = false := by revert p; decide

/-- PLP's status byte keeps B and has every other flag as pulled. -/
theorem getFlag_plpStatus (g : Flag) (q p : Byte) :
    getFlag g (plpStatus q p) = if g = .b then getFlag g p else getFlag g q := by
  cases g <;> simp [getFlag, plpStatus, Flag.bit, Config.restoreMask, Config.pushMask]

theorem unused_plpStatus (q p : Byte) : unusedBit (plpStatus q p) = unusedBit p := by
  simp [unusedBit, plpStatus, Config.restoreMask, Config.pushMask]

end Sys2Proof.Machine
end

