-- ==== Sys2Proof/Laws/State.lean ====
section
/-! SUPPORT. What each update of the state leaves in each field. -/

namespace Sys2Proof.Machine

@[simp] theorem State.setAC_ac (s : State) (v : Byte) : (s.setAC v).ac = v := rfl
@[simp] theorem State.setAC_x (s : State) (v : Byte) : (s.setAC v).x = s.x := rfl
@[simp] theorem State.setAC_y (s : State) (v : Byte) : (s.setAC v).y = s.y := rfl
@[simp] theorem State.setAC_sp (s : State) (v : Byte) : (s.setAC v).sp = s.sp := rfl
@[simp] theorem State.setAC_pc (s : State) (v : Byte) : (s.setAC v).pc = s.pc := rfl
@[simp] theorem State.setAC_status (s : State) (v : Byte) : (s.setAC v).status = s.status := rfl
@[simp] theorem State.setAC_mem (s : State) (v : Byte) : (s.setAC v).mem = s.mem := rfl
@[simp] theorem State.setAC_resetDone (s : State) (v : Byte) : (s.setAC v).resetDone = s.resetDone := rfl
@[simp] theorem State.setAC_fault (s : State) (v : Byte) : (s.setAC v).fault = s.fault := rfl
@[simp] theorem State.setAC_config (s : State) (v : Byte) : (s.setAC v).config = s.config := rfl

@[simp] theorem State.setX_ac (s : State) (v : Byte) : (s.setX v).ac = s.ac := rfl
@[simp] theorem State.setX_x (s : State) (v : Byte) : (s.setX v).x = v := rfl
@[simp] theorem State.setX_y (s : State) (v : Byte) : (s.setX v).y = s.y := rfl
@[simp] theorem State.setX_sp (s : State) (v : Byte) : (s.setX v).sp = s.sp := rfl
@[simp] theorem State.setX_pc (s : State) (v : Byte) : (s.setX v).pc = s.pc := rfl
@[simp] theorem State.setX_status (s : State) (v : Byte) : (s.setX v).status = s.status := rfl
@[simp] theorem State.setX_mem (s : State) (v : Byte) : (s.setX v).mem = s.mem := rfl
@[simp] theorem State.setX_resetDone (s : State) (v : Byte) : (s.setX v).resetDone = s.resetDone := rfl
@[simp] theorem State.setX_fault (s : State) (v : Byte) : (s.setX v).fault = s.fault := rfl
@[simp] theorem State.setX_config (s : State) (v : Byte) : (s.setX v).config = s.config := rfl

@[simp] theorem State.setY_ac (s : State) (v : Byte) : (s.setY v).ac = s.ac := rfl
@[simp] theorem State.setY_x (s : State) (v : Byte) : (s.setY v).x = s.x := rfl
@[simp] theorem State.setY_y (s : State) (v : Byte) : (s.setY v).y = v := rfl
@[simp] theorem State.setY_sp (s : State) (v : Byte) : (s.setY v).sp = s.sp := rfl
@[simp] theorem State.setY_pc (s : State) (v : Byte) : (s.setY v).pc = s.pc := rfl
@[simp] theorem State.setY_status (s : State) (v : Byte) : (s.setY v).status = s.status := rfl
@[simp] theorem State.setY_mem (s : State) (v : Byte) : (s.setY v).mem = s.mem := rfl
@[simp] theorem State.setY_resetDone (s : State) (v : Byte) : (s.setY v).resetDone = s.resetDone := rfl
@[simp] theorem State.setY_fault (s : State) (v : Byte) : (s.setY v).fault = s.fault := rfl
@[simp] theorem State.setY_config (s : State) (v : Byte) : (s.setY v).config = s.config := rfl

@[simp] theorem State.setSP_ac (s : State) (v : Byte) : (s.setSP v).ac = s.ac := rfl
@[simp] theorem State.setSP_x (s : State) (v : Byte) : (s.setSP v).x = s.x := rfl
@[simp] theorem State.setSP_y (s : State) (v : Byte) : (s.setSP v).y = s.y := rfl
@[simp] theorem State.setSP_sp (s : State) (v : Byte) : (s.setSP v).sp = v := rfl
@[simp] theorem State.setSP_pc (s : State) (v : Byte) : (s.setSP v).pc = s.pc := rfl
@[simp] theorem State.setSP_status (s : State) (v : Byte) : (s.setSP v).status = s.status := rfl
@[simp] theorem State.setSP_mem (s : State) (v : Byte) : (s.setSP v).mem = s.mem := rfl
@[simp] theorem State.setSP_resetDone (s : State) (v : Byte) : (s.setSP v).resetDone = s.resetDone := rfl
@[simp] theorem State.setSP_fault (s : State) (v : Byte) : (s.setSP v).fault = s.fault := rfl
@[simp] theorem State.setSP_config (s : State) (v : Byte) : (s.setSP v).config = s.config := rfl

@[simp] theorem State.setPC_ac (s : State) (w : Word) : (s.setPC w).ac = s.ac := rfl
@[simp] theorem State.setPC_x (s : State) (w : Word) : (s.setPC w).x = s.x := rfl
@[simp] theorem State.setPC_y (s : State) (w : Word) : (s.setPC w).y = s.y := rfl
@[simp] theorem State.setPC_sp (s : State) (w : Word) : (s.setPC w).sp = s.sp := rfl
@[simp] theorem State.setPC_pc (s : State) (w : Word) : (s.setPC w).pc = w := rfl
@[simp] theorem State.setPC_status (s : State) (w : Word) : (s.setPC w).status = s.status := rfl
@[simp] theorem State.setPC_mem (s : State) (w : Word) : (s.setPC w).mem = s.mem := rfl
@[simp] theorem State.setPC_resetDone (s : State) (w : Word) : (s.setPC w).resetDone = s.resetDone := rfl
@[simp] theorem State.setPC_fault (s : State) (w : Word) : (s.setPC w).fault = s.fault := rfl
@[simp] theorem State.setPC_config (s : State) (w : Word) : (s.setPC w).config = s.config := rfl

@[simp] theorem State.setStatus_ac (s : State) (p : Byte) : (s.setStatus p).ac = s.ac := rfl
@[simp] theorem State.setStatus_x (s : State) (p : Byte) : (s.setStatus p).x = s.x := rfl
@[simp] theorem State.setStatus_y (s : State) (p : Byte) : (s.setStatus p).y = s.y := rfl
@[simp] theorem State.setStatus_sp (s : State) (p : Byte) : (s.setStatus p).sp = s.sp := rfl
@[simp] theorem State.setStatus_pc (s : State) (p : Byte) : (s.setStatus p).pc = s.pc := rfl
@[simp] theorem State.setStatus_status (s : State) (p : Byte) : (s.setStatus p).status = p := rfl
@[simp] theorem State.setStatus_mem (s : State) (p : Byte) : (s.setStatus p).mem = s.mem := rfl
@[simp] theorem State.setStatus_resetDone (s : State) (p : Byte) : (s.setStatus p).resetDone = s.resetDone := rfl
@[simp] theorem State.setStatus_fault (s : State) (p : Byte) : (s.setStatus p).fault = s.fault := rfl
@[simp] theorem State.setStatus_config (s : State) (p : Byte) : (s.setStatus p).config = s.config := rfl

@[simp] theorem State.setMem_ac (s : State) (m : Memory) : (s.setMem m).ac = s.ac := rfl
@[simp] theorem State.setMem_x (s : State) (m : Memory) : (s.setMem m).x = s.x := rfl
@[simp] theorem State.setMem_y (s : State) (m : Memory) : (s.setMem m).y = s.y := rfl
@[simp] theorem State.setMem_sp (s : State) (m : Memory) : (s.setMem m).sp = s.sp := rfl
@[simp] theorem State.setMem_pc (s : State) (m : Memory) : (s.setMem m).pc = s.pc := rfl
@[simp] theorem State.setMem_status (s : State) (m : Memory) : (s.setMem m).status = s.status := rfl
@[simp] theorem State.setMem_mem (s : State) (m : Memory) : (s.setMem m).mem = m := rfl
@[simp] theorem State.setMem_resetDone (s : State) (m : Memory) : (s.setMem m).resetDone = s.resetDone := rfl
@[simp] theorem State.setMem_fault (s : State) (m : Memory) : (s.setMem m).fault = s.fault := rfl
@[simp] theorem State.setMem_config (s : State) (m : Memory) : (s.setMem m).config = s.config := rfl

@[simp] theorem State.setResetDone_ac (s : State) (b : Bool) : (s.setResetDone b).ac = s.ac := rfl
@[simp] theorem State.setResetDone_x (s : State) (b : Bool) : (s.setResetDone b).x = s.x := rfl
@[simp] theorem State.setResetDone_y (s : State) (b : Bool) : (s.setResetDone b).y = s.y := rfl
@[simp] theorem State.setResetDone_sp (s : State) (b : Bool) : (s.setResetDone b).sp = s.sp := rfl
@[simp] theorem State.setResetDone_pc (s : State) (b : Bool) : (s.setResetDone b).pc = s.pc := rfl
@[simp] theorem State.setResetDone_status (s : State) (b : Bool) : (s.setResetDone b).status = s.status := rfl
@[simp] theorem State.setResetDone_mem (s : State) (b : Bool) : (s.setResetDone b).mem = s.mem := rfl
@[simp] theorem State.setResetDone_resetDone (s : State) (b : Bool) : (s.setResetDone b).resetDone = b := rfl
@[simp] theorem State.setResetDone_fault (s : State) (b : Bool) : (s.setResetDone b).fault = s.fault := rfl
@[simp] theorem State.setResetDone_config (s : State) (b : Bool) : (s.setResetDone b).config = s.config := rfl

@[simp] theorem State.setFault_ac (s : State) (f : Option Fault) : (s.setFault f).ac = s.ac := rfl
@[simp] theorem State.setFault_x (s : State) (f : Option Fault) : (s.setFault f).x = s.x := rfl
@[simp] theorem State.setFault_y (s : State) (f : Option Fault) : (s.setFault f).y = s.y := rfl
@[simp] theorem State.setFault_sp (s : State) (f : Option Fault) : (s.setFault f).sp = s.sp := rfl
@[simp] theorem State.setFault_pc (s : State) (f : Option Fault) : (s.setFault f).pc = s.pc := rfl
@[simp] theorem State.setFault_status (s : State) (f : Option Fault) : (s.setFault f).status = s.status := rfl
@[simp] theorem State.setFault_mem (s : State) (f : Option Fault) : (s.setFault f).mem = s.mem := rfl
@[simp] theorem State.setFault_resetDone (s : State) (f : Option Fault) : (s.setFault f).resetDone = s.resetDone := rfl
@[simp] theorem State.setFault_fault (s : State) (f : Option Fault) : (s.setFault f).fault = f := rfl
@[simp] theorem State.setFault_config (s : State) (f : Option Fault) : (s.setFault f).config = s.config := rfl

@[simp] theorem State.setFlag_ac (s : State) (g : Flag) (b : Bool) : (s.setFlag g b).ac = s.ac := rfl
@[simp] theorem State.setFlag_x (s : State) (g : Flag) (b : Bool) : (s.setFlag g b).x = s.x := rfl
@[simp] theorem State.setFlag_y (s : State) (g : Flag) (b : Bool) : (s.setFlag g b).y = s.y := rfl
@[simp] theorem State.setFlag_sp (s : State) (g : Flag) (b : Bool) : (s.setFlag g b).sp = s.sp := rfl
@[simp] theorem State.setFlag_pc (s : State) (g : Flag) (b : Bool) : (s.setFlag g b).pc = s.pc := rfl
@[simp] theorem State.setFlag_mem (s : State) (g : Flag) (b : Bool) : (s.setFlag g b).mem = s.mem := rfl
@[simp] theorem State.setFlag_resetDone (s : State) (g : Flag) (b : Bool) : (s.setFlag g b).resetDone = s.resetDone := rfl
@[simp] theorem State.setFlag_fault (s : State) (g : Flag) (b : Bool) : (s.setFlag g b).fault = s.fault := rfl
@[simp] theorem State.setFlag_config (s : State) (g : Flag) (b : Bool) : (s.setFlag g b).config = s.config := rfl
theorem State.setFlag_status (s : State) (g : Flag) (b : Bool) : (s.setFlag g b).status = putFlag g b s.status := rfl

@[simp] theorem State.setZN_ac (s : State) (v : Byte) : (s.setZN v).ac = s.ac := rfl
@[simp] theorem State.setZN_x (s : State) (v : Byte) : (s.setZN v).x = s.x := rfl
@[simp] theorem State.setZN_y (s : State) (v : Byte) : (s.setZN v).y = s.y := rfl
@[simp] theorem State.setZN_sp (s : State) (v : Byte) : (s.setZN v).sp = s.sp := rfl
@[simp] theorem State.setZN_pc (s : State) (v : Byte) : (s.setZN v).pc = s.pc := rfl
@[simp] theorem State.setZN_mem (s : State) (v : Byte) : (s.setZN v).mem = s.mem := rfl
@[simp] theorem State.setZN_resetDone (s : State) (v : Byte) : (s.setZN v).resetDone = s.resetDone := rfl
@[simp] theorem State.setZN_fault (s : State) (v : Byte) : (s.setZN v).fault = s.fault := rfl
@[simp] theorem State.setZN_config (s : State) (v : Byte) : (s.setZN v).config = s.config := rfl
theorem State.setZN_status (s : State) (v : Byte) : (s.setZN v).status = putZN v s.status := rfl

@[simp] theorem memLoad_ac (a : Word) (v : Byte) (s : State) : (memLoad a v s).ac = s.ac := rfl
@[simp] theorem memLoad_x (a : Word) (v : Byte) (s : State) : (memLoad a v s).x = s.x := rfl
@[simp] theorem memLoad_y (a : Word) (v : Byte) (s : State) : (memLoad a v s).y = s.y := rfl
@[simp] theorem memLoad_sp (a : Word) (v : Byte) (s : State) : (memLoad a v s).sp = s.sp := rfl
@[simp] theorem memLoad_pc (a : Word) (v : Byte) (s : State) : (memLoad a v s).pc = s.pc := rfl
@[simp] theorem memLoad_status (a : Word) (v : Byte) (s : State) : (memLoad a v s).status = s.status := rfl
@[simp] theorem memLoad_resetDone (a : Word) (v : Byte) (s : State) : (memLoad a v s).resetDone = s.resetDone := rfl
@[simp] theorem memLoad_fault (a : Word) (v : Byte) (s : State) : (memLoad a v s).fault = s.fault := rfl
@[simp] theorem memLoad_config (a : Word) (v : Byte) (s : State) : (memLoad a v s).config = s.config := rfl

@[simp] theorem memWrite_ac (a : Word) (v : Byte) (s : State) : (memWrite a v s).ac = s.ac := by
  unfold memWrite; split <;> rfl
@[simp] theorem memWrite_x (a : Word) (v : Byte) (s : State) : (memWrite a v s).x = s.x := by
  unfold memWrite; split <;> rfl
@[simp] theorem memWrite_y (a : Word) (v : Byte) (s : State) : (memWrite a v s).y = s.y := by
  unfold memWrite; split <;> rfl
@[simp] theorem memWrite_sp (a : Word) (v : Byte) (s : State) : (memWrite a v s).sp = s.sp := by
  unfold memWrite; split <;> rfl
@[simp] theorem memWrite_pc (a : Word) (v : Byte) (s : State) : (memWrite a v s).pc = s.pc := by
  unfold memWrite; split <;> rfl
@[simp] theorem memWrite_status (a : Word) (v : Byte) (s : State) : (memWrite a v s).status = s.status := by
  unfold memWrite; split <;> rfl
@[simp] theorem memWrite_resetDone (a : Word) (v : Byte) (s : State) : (memWrite a v s).resetDone = s.resetDone := by
  unfold memWrite; split <;> rfl
@[simp] theorem memWrite_fault (a : Word) (v : Byte) (s : State) : (memWrite a v s).fault = s.fault := by
  unfold memWrite; split <;> rfl
@[simp] theorem memWrite_config (a : Word) (v : Byte) (s : State) : (memWrite a v s).config = s.config := by
  unfold memWrite; split <;> rfl

@[simp] theorem push_ac (v : Byte) (s : State) : (push v s).ac = s.ac := memWrite_ac _ v s
@[simp] theorem push_x (v : Byte) (s : State) : (push v s).x = s.x := memWrite_x _ v s
@[simp] theorem push_y (v : Byte) (s : State) : (push v s).y = s.y := memWrite_y _ v s
@[simp] theorem push_sp (v : Byte) (s : State) : (push v s).sp = s.sp - 1 := rfl
@[simp] theorem push_pc (v : Byte) (s : State) : (push v s).pc = s.pc := memWrite_pc _ v s
@[simp] theorem push_status (v : Byte) (s : State) : (push v s).status = s.status := memWrite_status _ v s
@[simp] theorem push_resetDone (v : Byte) (s : State) : (push v s).resetDone = s.resetDone := memWrite_resetDone _ v s
@[simp] theorem push_fault (v : Byte) (s : State) : (push v s).fault = s.fault := memWrite_fault _ v s
@[simp] theorem push_config (v : Byte) (s : State) : (push v s).config = s.config := memWrite_config _ v s
theorem push_mem (v : Byte) (s : State) : (push v s).mem = (memWrite (stackAddr s.sp) v s).mem := rfl

@[simp] theorem pulled_ac (s : State) : (pulled s).ac = s.ac := rfl
@[simp] theorem pulled_x (s : State) : (pulled s).x = s.x := rfl
@[simp] theorem pulled_y (s : State) : (pulled s).y = s.y := rfl
@[simp] theorem pulled_sp (s : State) : (pulled s).sp = s.sp + 1 := rfl
@[simp] theorem pulled_pc (s : State) : (pulled s).pc = s.pc := rfl
@[simp] theorem pulled_status (s : State) : (pulled s).status = s.status := rfl
@[simp] theorem pulled_mem (s : State) : (pulled s).mem = s.mem := rfl
@[simp] theorem pulled_resetDone (s : State) : (pulled s).resetDone = s.resetDone := rfl
@[simp] theorem pulled_fault (s : State) : (pulled s).fault = s.fault := rfl
@[simp] theorem pulled_config (s : State) : (pulled s).config = s.config := rfl

/-! Two states that agree on every field are one state. -/

theorem State.ext_fields {s t : State} (h0 : s.ac = t.ac) (h1 : s.x = t.x) (h2 : s.y = t.y) (h3 : s.sp = t.sp) (h4 : s.pc = t.pc)
    (h5 : s.status = t.status) (h6 : s.mem = t.mem) (h7 : s.resetDone = t.resetDone) (h8 : s.fault = t.fault) (h9 : s.config = t.config) : s = t := by
  cases s; cases t; simp_all

end Sys2Proof.Machine
end

