-- ==== Sys2Proof/Laws/Memory.lean ====
section
/-! SUPPORT. The memory: reads after writes, the canonical form, the write guard and the stack. -/

namespace Sys2Proof.Machine

/-! ## The list of bytes -/

theorem Memory.read_erase (m : Memory) (a b : Nat) :
    Memory.read (Memory.erase m a) b = if b = a then Memory.unlisted else Memory.read m b := by
  induction m with
  | nil => simp [Memory.erase, Memory.read]
  | cons c m ih =>
    simp only [Memory.erase, List.filter_cons, bne_iff_ne, ne_eq] at ih ⊢
    by_cases hca : c.1 = a <;> by_cases hcb : c.1 = b <;> simp_all [Memory.read]

theorem Memory.read_insert (m : Memory) (a b : Nat) (v : Byte) (h : ∀ c ∈ m, c.1 ≠ a) :
    Memory.read (Memory.insert a v m) b = if b = a then v else Memory.read m b := by
  induction m with
  | nil => simp [Memory.insert, Memory.read, eq_comm]
  | cons c m ih =>
    have hc : c.1 ≠ a := h c (by simp)
    have ih := ih (fun d hd => h d (by simp [hd]))
    by_cases hlt : a < c.1
    · simp [Memory.insert, hlt, Memory.read, eq_comm (a := a)]
    · by_cases hcb : c.1 = b
      · subst hcb; simp [Memory.insert, hlt, Memory.read, hc]
      · simp [Memory.insert, hlt, Memory.read, hcb, ih]

theorem Memory.ne_of_mem_erase {m : Memory} {a : Nat} {c : Host.Cell} (h : c ∈ Memory.erase m a) : c.1 ≠ a := by
  simpa [Memory.erase] using (List.mem_filter.mp h).2

/-- A read after a write: the byte written at that address, the byte before it at every other. -/
theorem Memory.read_write (m : Memory) (a b : Nat) (v : Byte) :
    Memory.read (Memory.write m a v) b = if b = a then v else Memory.read m b := by
  unfold Memory.write
  split
  · simp_all [Memory.read_erase]
  · rw [Memory.read_insert _ _ _ _ (fun c hc => Memory.ne_of_mem_erase hc), Memory.read_erase]
    split <;> rfl

theorem Memory.wfFrom_weaken {low low' : Nat} {m : Memory} (h : Memory.wfFrom low m = true) (hl : low' ≤ low) :
    Memory.wfFrom low' m = true := by
  cases m with
  | nil => rfl
  | cons c m => 
    simp only [Memory.wfFrom, Bool.and_eq_true, decide_eq_true_eq] at h ⊢
    exact ⟨⟨⟨by omega, h.1.1.2⟩, h.1.2⟩, h.2⟩

theorem Memory.wfFrom_erase {low : Nat} {m : Memory} (a : Nat) (h : Memory.wfFrom low m = true) :
    Memory.wfFrom low (Memory.erase m a) = true := by
  induction m generalizing low with
  | nil => rfl
  | cons c m ih =>
    simp only [Memory.wfFrom, Bool.and_eq_true, decide_eq_true_eq] at h
    by_cases hc : c.1 = a
    · simpa [Memory.erase, List.filter_cons, hc] using
        Memory.wfFrom_weaken (ih h.2) (show low ≤ c.1 + 1 by omega)
    · simpa [Memory.erase, List.filter_cons, hc, Memory.wfFrom, h.1] using ih h.2

theorem Memory.wfFrom_insert {low : Nat} {m : Memory} {a : Nat} {v : Byte} (h : Memory.wfFrom low m = true)
    (hlow : low ≤ a) (ha : a < 65536) (hv : v ≠ Memory.unlisted) (hne : ∀ c ∈ m, c.1 ≠ a) :
    Memory.wfFrom low (Memory.insert a v m) = true := by
  induction m generalizing low with
  | nil => simp [Memory.insert, Memory.wfFrom, hlow, ha, hv]
  | cons c m ih =>
    simp only [Memory.wfFrom, Bool.and_eq_true, decide_eq_true_eq] at h
    have hc : c.1 ≠ a := hne c (by simp)
    by_cases hlt : a < c.1
    · have hca : a + 1 ≤ c.1 := hlt
      simp [Memory.insert, hlt, Memory.wfFrom, hlow, ha, hv, hca, h]
    · have : c.1 + 1 ≤ a := by omega
      simp [Memory.insert, hlt, Memory.wfFrom, h.1,
        ih h.2 this (fun d hd => hne d (by simp [hd]))]

/-- A write keeps the canonical form. -/
theorem Memory.wf_write {m : Memory} {a : Nat} (v : Byte) (h : Memory.wf m = true) (ha : a < 65536) :
    Memory.wf (Memory.write m a v) = true := by
  unfold Memory.write
  split
  · exact Memory.wfFrom_erase a h
  · exact Memory.wfFrom_insert (Memory.wfFrom_erase a h) (Nat.zero_le a) ha (by assumption)
      (fun c hc => Memory.ne_of_mem_erase hc)

/-! ## Reads and writes of the state -/

/-- A read depends on the memory alone. -/
theorem memRead_congr {s t : State} (h : s.mem = t.mem) (a : Word) : memRead a s = memRead a t := by
  simp [memRead, h]

@[simp] theorem memRead_setAC (a : Word) (s : State) (v : Byte) : memRead a (s.setAC v) = memRead a s := rfl
@[simp] theorem memRead_setX (a : Word) (s : State) (v : Byte) : memRead a (s.setX v) = memRead a s := rfl
@[simp] theorem memRead_setY (a : Word) (s : State) (v : Byte) : memRead a (s.setY v) = memRead a s := rfl
@[simp] theorem memRead_setSP (a : Word) (s : State) (v : Byte) : memRead a (s.setSP v) = memRead a s := rfl
@[simp] theorem memRead_setPC (a : Word) (s : State) (w : Word) : memRead a (s.setPC w) = memRead a s := rfl
@[simp] theorem memRead_setStatus (a : Word) (s : State) (p : Byte) : memRead a (s.setStatus p) = memRead a s := rfl
@[simp] theorem memRead_setFlag (a : Word) (s : State) (f : Flag) (b : Bool) :
    memRead a (s.setFlag f b) = memRead a s := rfl
@[simp] theorem memRead_setZN (a : Word) (s : State) (v : Byte) : memRead a (s.setZN v) = memRead a s := rfl
@[simp] theorem memRead_setResetDone (a : Word) (s : State) (b : Bool) :
    memRead a (s.setResetDone b) = memRead a s := rfl
@[simp] theorem memRead_setFault (a : Word) (s : State) (f : Option Fault) :
    memRead a (s.setFault f) = memRead a s := rfl
@[simp] theorem memRead_pulled (a : Word) (s : State) : memRead a (pulled s) = memRead a s := rfl

theorem memRead_memLoad (a b : Word) (v : Byte) (s : State) :
    memRead b (memLoad a v s) = if b = a then v else memRead b s := by
  simp [memRead, memLoad, Memory.read_write, BitVec.toNat_inj]

theorem guarded_iff (a : Word) : guarded a = true ↔ 0x8000 ≤ a.toNat := by simp [guarded, Config.romBase]

theorem guarded_eq_false_iff (a : Word) : guarded a = false ↔ a.toNat < 0x8000 := by simp [guarded, Config.romBase]

theorem memWrite_guarded {a : Word} (h : guarded a = true) (v : Byte) (s : State) : memWrite a v s = s := by
  simp [memWrite, h]

theorem memWrite_ram {a : Word} (h : guarded a = false) (v : Byte) (s : State) : memWrite a v s = memLoad a v s := by
  simp [memWrite, h]

/-- A read after a guarded write. -/
theorem memRead_memWrite (a b : Word) (v : Byte) (s : State) :
    memRead b (memWrite a v s) = if b = a ∧ a.toNat < 0x8000 then v else memRead b s := by
  cases h : guarded a with
  | true =>
    have := (guarded_iff a).mp h
    rw [memWrite_guarded h, if_neg (by omega)]
  | false => simp [memWrite_ram h, memRead_memLoad, (guarded_eq_false_iff a).mp h]

/-- The byte at the address of a guarded write, after it. -/
theorem memRead_memWrite_self (a : Word) (v : Byte) (s : State) :
    memRead a (memWrite a v s) = if a.toNat < 0x8000 then v else memRead a s := by
  by_cases h : a.toNat < 0x8000 <;> simp [memRead_memWrite, h]

/-- A guarded write leaves every other byte alone. -/
theorem memRead_memWrite_of_ne {a b : Word} (h : b ≠ a) (v : Byte) (s : State) :
    memRead b (memWrite a v s) = memRead b s := by
  simp [memRead_memWrite, h]

/-- No guarded write reaches the ROM. -/
theorem memRead_memWrite_rom {b : Word} (hb : 0x8000 ≤ b.toNat) (a : Word) (v : Byte) (s : State) :
    memRead b (memWrite a v s) = memRead b s := by
  rw [memRead_memWrite, if_neg]
  rintro ⟨rfl, h⟩; omega

theorem wf_memLoad {s : State} (h : Memory.wf s.mem = true) (a : Word) (v : Byte) :
    Memory.wf (memLoad a v s).mem = true :=
  Memory.wf_write v h a.isLt

theorem wf_memWrite {s : State} (h : Memory.wf s.mem = true) (a : Word) (v : Byte) :
    Memory.wf (memWrite a v s).mem = true := by
  unfold memWrite
  split
  · exact h
  · exact wf_memLoad h a v

/-! ## The stack -/

/-- A stack address is 0x0100 + SP, in RAM. -/
theorem stackAddr_toNat (sp : Byte) : (stackAddr sp).toNat = 0x100 + sp.toNat := by
  revert sp; decide

theorem stackAddr_ram (sp : Byte) : (stackAddr sp).toNat < 0x8000 := by
  have := sp.isLt
  rw [stackAddr_toNat]; omega

theorem stackAddr_inj {p q : Byte} : stackAddr p = stackAddr q ↔ p = q := by
  rw [← BitVec.toNat_inj, stackAddr_toNat, stackAddr_toNat, ← BitVec.toNat_inj]; omega

/-- A read after a push. -/
theorem memRead_push (b : Word) (v : Byte) (s : State) :
    memRead b (push v s) = if b = stackAddr s.sp then v else memRead b s := by
  show memRead b (memWrite (stackAddr s.sp) v s) = _
  simp [memRead_memWrite, stackAddr_ram]

theorem memRead_push_rom {b : Word} (hb : 0x8000 ≤ b.toNat) (v : Byte) (s : State) :
    memRead b (push v s) = memRead b s :=
  memRead_memWrite_rom hb _ v s

theorem wf_push {s : State} (h : Memory.wf s.mem = true) (v : Byte) : Memory.wf (push v s).mem = true :=
  wf_memWrite h _ v

/-- A pull takes back what the last push wrote, and leaves SP as it was before it. -/
theorem pullByte_push (v : Byte) (s : State) : pullByte (push v s) = v := by
  simp [pullByte, memRead_push]

theorem pulled_push_sp (v : Byte) (s : State) : (pulled (push v s)).sp = s.sp := by simp

/-! ## Words -/

theorem join_toNat (h l : Byte) : (join h l).toNat = h.toNat * 256 + l.toNat := by
  show (h ++ l).toNat = _
  rw [BitVec.toNat_append, Nat.shiftLeft_eq, Nat.mul_comm, ← Nat.two_pow_add_eq_or_of_lt l.isLt h.toNat]

theorem join_hi_lo (w : Word) : join (hi w) (lo w) = w := by
  apply BitVec.eq_of_toNat_eq
  have := w.isLt
  rw [join_toNat]
  simp [hi, lo, Nat.shiftRight_eq_div_pow]
  omega

theorem hi_join (h l : Byte) : hi (join h l) = h := by
  apply BitVec.eq_of_toNat_eq
  have hl := l.isLt
  have hh := h.isLt
  simp only [hi, BitVec.toNat_setWidth, BitVec.toNat_ushiftRight, join_toNat, Nat.shiftRight_eq_div_pow]
  omega

theorem lo_join (h l : Byte) : lo (join h l) = l := by
  apply BitVec.eq_of_toNat_eq
  have hl := l.isLt
  simp only [lo, BitVec.toNat_setWidth, join_toNat]
  omega

theorem zext16_toNat (b : Byte) : (zext16 b).toNat = b.toNat := by revert b; decide

theorem hi_toNat (w : Word) : (hi w).toNat = w.toNat / 256 := by
  have := w.isLt
  simp only [hi, BitVec.toNat_setWidth, BitVec.toNat_ushiftRight, Nat.shiftRight_eq_div_pow]
  omega

theorem lo_toNat (w : Word) : (lo w).toNat = w.toNat % 256 := by simp [lo]

theorem lo_zext16 (b : Byte) : lo (zext16 b) = b := by revert b; decide

end Sys2Proof.Machine
end

