-- ==== Sys2Proof/Laws/Ops.lean ====
section
/-! SUPPORT. What each shared operation of the handlers leaves in each field and in memory. -/

namespace Sys2Proof.Machine

/-! ## Flags of a state -/

@[simp] theorem flag_setFlag (s : State) (f g : Flag) (b : Bool) :
    (s.setFlag f b).flag g = if g = f then b else s.flag g :=
  getFlag_putFlag f g b s.status

@[simp] theorem flag_setZN (s : State) (g : Flag) (v : Byte) :
    (s.setZN v).flag g = if g = .n then negative v else if g = .z then (v == 0) else s.flag g :=
  getFlag_putZN g v s.status

/-- A flag depends on Status alone. -/
theorem flag_congr {s t : State} (h : s.status = t.status) (f : Flag) : s.flag f = t.flag f := by simp [State.flag, h]

/-! ## The end of a sequential instruction -/

@[simp] theorem advance_ac (d : Descriptor) (s : State) : (advance d s).ac = s.ac := rfl
@[simp] theorem advance_x (d : Descriptor) (s : State) : (advance d s).x = s.x := rfl
@[simp] theorem advance_y (d : Descriptor) (s : State) : (advance d s).y = s.y := rfl
@[simp] theorem advance_sp (d : Descriptor) (s : State) : (advance d s).sp = s.sp := rfl
@[simp] theorem advance_pc (d : Descriptor) (s : State) : (advance d s).pc = s.pc + BitVec.ofNat 16 (d.nbytes + 1) := rfl
@[simp] theorem advance_status (d : Descriptor) (s : State) : (advance d s).status = s.status := rfl
@[simp] theorem advance_mem (d : Descriptor) (s : State) : (advance d s).mem = s.mem := rfl
@[simp] theorem advance_resetDone (d : Descriptor) (s : State) : (advance d s).resetDone = s.resetDone := rfl
@[simp] theorem advance_fault (d : Descriptor) (s : State) : (advance d s).fault = s.fault := rfl
@[simp] theorem advance_config (d : Descriptor) (s : State) : (advance d s).config = s.config := rfl
@[simp] theorem memRead_advance (a : Word) (d : Descriptor) (s : State) : memRead a (advance d s) = memRead a s := rfl

/-- A resolver reports the operand bytes of its mode (R100, R101). -/
theorem resolve_nbytes (o : Operand) (s : State) : (resolve o s).nbytes = o.mode.nbytes := by cases o <;> rfl

/-! ## Write back -/

theorem writeBack_accumulator (d : Descriptor) (v : Byte) (s : State) :
    writeBack .accumulator d v s = s.setAC v := rfl

theorem writeBack_memory {o : Operand} (h : o.mode ≠ .accumulator) (d : Descriptor) (v : Byte) (s : State) :
    writeBack o d v s = memWrite d.val v s := by simp [writeBack, h]

@[simp] theorem writeBack_x (o : Operand) (d : Descriptor) (v : Byte) (s : State) :
    (writeBack o d v s).x = s.x := by unfold writeBack; split <;> simp
@[simp] theorem writeBack_y (o : Operand) (d : Descriptor) (v : Byte) (s : State) :
    (writeBack o d v s).y = s.y := by unfold writeBack; split <;> simp
@[simp] theorem writeBack_sp (o : Operand) (d : Descriptor) (v : Byte) (s : State) :
    (writeBack o d v s).sp = s.sp := by unfold writeBack; split <;> simp
@[simp] theorem writeBack_pc (o : Operand) (d : Descriptor) (v : Byte) (s : State) :
    (writeBack o d v s).pc = s.pc := by unfold writeBack; split <;> simp
@[simp] theorem writeBack_status (o : Operand) (d : Descriptor) (v : Byte) (s : State) :
    (writeBack o d v s).status = s.status := by unfold writeBack; split <;> simp
@[simp] theorem writeBack_resetDone (o : Operand) (d : Descriptor) (v : Byte) (s : State) :
    (writeBack o d v s).resetDone = s.resetDone := by unfold writeBack; split <;> simp
@[simp] theorem writeBack_fault (o : Operand) (d : Descriptor) (v : Byte) (s : State) :
    (writeBack o d v s).fault = s.fault := by unfold writeBack; split <;> simp
@[simp] theorem writeBack_config (o : Operand) (d : Descriptor) (v : Byte) (s : State) :
    (writeBack o d v s).config = s.config := by unfold writeBack; split <;> simp

theorem wf_writeBack {s : State} (h : Memory.wf s.mem = true) (o : Operand) (d : Descriptor) (v : Byte) :
    Memory.wf (writeBack o d v s).mem = true := by
  unfold writeBack
  split
  · exact h
  · exact wf_memWrite h _ _

theorem memRead_writeBack_rom {b : Word} (hb : 0x8000 ≤ b.toNat) (o : Operand) (d : Descriptor) (v : Byte) (s : State) :
    memRead b (writeBack o d v s) = memRead b s := by
  unfold writeBack
  split
  · rfl
  · exact memRead_memWrite_rom hb _ _ _

/-! ## Words on the stack -/

@[simp] theorem pushWord_ac (w : Word) (s : State) : (pushWord w s).ac = s.ac := by simp [pushWord]
@[simp] theorem pushWord_x (w : Word) (s : State) : (pushWord w s).x = s.x := by simp [pushWord]
@[simp] theorem pushWord_y (w : Word) (s : State) : (pushWord w s).y = s.y := by simp [pushWord]
theorem pushWord_sp (w : Word) (s : State) : (pushWord w s).sp = s.sp - 1 - 1 := rfl
@[simp] theorem pushWord_pc (w : Word) (s : State) : (pushWord w s).pc = s.pc := by simp [pushWord]
@[simp] theorem pushWord_status (w : Word) (s : State) : (pushWord w s).status = s.status := by simp [pushWord]
@[simp] theorem pushWord_resetDone (w : Word) (s : State) : (pushWord w s).resetDone = s.resetDone := by simp [pushWord]
@[simp] theorem pushWord_fault (w : Word) (s : State) : (pushWord w s).fault = s.fault := by simp [pushWord]
@[simp] theorem pushWord_config (w : Word) (s : State) : (pushWord w s).config = s.config := by simp [pushWord]
@[simp] theorem pulledWord_ac (s : State) : (pulledWord s).ac = s.ac := rfl
@[simp] theorem pulledWord_x (s : State) : (pulledWord s).x = s.x := rfl
@[simp] theorem pulledWord_y (s : State) : (pulledWord s).y = s.y := rfl
theorem pulledWord_sp (s : State) : (pulledWord s).sp = s.sp + 1 + 1 := rfl
@[simp] theorem pulledWord_pc (s : State) : (pulledWord s).pc = s.pc := rfl
@[simp] theorem pulledWord_status (s : State) : (pulledWord s).status = s.status := rfl
@[simp] theorem pulledWord_mem (s : State) : (pulledWord s).mem = s.mem := rfl
@[simp] theorem pulledWord_resetDone (s : State) : (pulledWord s).resetDone = s.resetDone := rfl
@[simp] theorem pulledWord_fault (s : State) : (pulledWord s).fault = s.fault := rfl
@[simp] theorem pulledWord_config (s : State) : (pulledWord s).config = s.config := rfl
@[simp] theorem memRead_pulledWord (a : Word) (s : State) : memRead a (pulledWord s) = memRead a s := rfl

theorem wf_pushWord {s : State} (h : Memory.wf s.mem = true) (w : Word) : Memory.wf (pushWord w s).mem = true :=
  wf_push (wf_push h _) _

/-- A read after a word is pushed: its high byte at the old SP, its low byte one slot below. -/
theorem memRead_pushWord (b : Word) (w : Word) (s : State) :
    memRead b (pushWord w s) =
      if b = stackAddr (s.sp - 1) then lo w else if b = stackAddr s.sp then hi w else memRead b s := by
  simp [pushWord, memRead_push]

/-- The word pulled depends on SP and the two slots above it. -/
theorem pullWord_eq (s : State) :
    pullWord s = join (memRead (stackAddr (s.sp + 1 + 1)) s) (memRead (stackAddr (s.sp + 1)) s) := rfl

/-! ## Interrupt entry and return -/

@[simp] theorem enterInterrupt_ac (r : Word) (p : Byte) (v : Word) (s : State) :
    (enterInterrupt r p v s).ac = s.ac := by simp [enterInterrupt]
@[simp] theorem enterInterrupt_x (r : Word) (p : Byte) (v : Word) (s : State) :
    (enterInterrupt r p v s).x = s.x := by simp [enterInterrupt]
@[simp] theorem enterInterrupt_y (r : Word) (p : Byte) (v : Word) (s : State) :
    (enterInterrupt r p v s).y = s.y := by simp [enterInterrupt]
@[simp] theorem enterInterrupt_resetDone (r : Word) (p : Byte) (v : Word) (s : State) :
    (enterInterrupt r p v s).resetDone = s.resetDone := by simp [enterInterrupt]
@[simp] theorem enterInterrupt_fault (r : Word) (p : Byte) (v : Word) (s : State) :
    (enterInterrupt r p v s).fault = s.fault := by simp [enterInterrupt]
@[simp] theorem enterInterrupt_config (r : Word) (p : Byte) (v : Word) (s : State) :
    (enterInterrupt r p v s).config = s.config := by simp [enterInterrupt]
theorem enterInterrupt_sp (r : Word) (p : Byte) (v : Word) (s : State) :
    (enterInterrupt r p v s).sp = s.sp - 1 - 1 - 1 := rfl

theorem enterInterrupt_status (r : Word) (p : Byte) (v : Word) (s : State) :
    (enterInterrupt r p v s).status = putFlag .i true s.status := by
  simp [enterInterrupt, State.setFlag_status]

/-- A read after an interrupt entry: the three bytes of the frame of R212, every other byte as before. -/
theorem memRead_enterInterrupt (b : Word) (r : Word) (p : Byte) (v : Word) (s : State) :
    memRead b (enterInterrupt r p v s) =
      if b = stackAddr (s.sp - 1 - 1) then p
      else if b = stackAddr (s.sp - 1) then lo r
      else if b = stackAddr s.sp then hi r
      else memRead b s := by
  simp [enterInterrupt, memRead_push, memRead_pushWord, pushWord_sp]

/-- The vectors lie in the ROM, so the frame cannot reach them: PC comes from the memory before the entry. -/
theorem enterInterrupt_pc (r : Word) (p : Byte) {v : Word} (h0 : 0x8000 ≤ v.toNat) (h1 : 0x8000 ≤ (v + 1).toNat)
    (s : State) : (enterInterrupt r p v s).pc = memRead16 v s := by
  have hk : ∀ a : Word, 0x8000 ≤ a.toNat → memRead a (push p (pushWord r s)) = memRead a s := fun a ha => by
    rw [memRead_push_rom ha, pushWord, memRead_push_rom ha, memRead_push_rom ha]
  show join (memRead (v + 1) (push p (pushWord r s))) (memRead v (push p (pushWord r s))) = _
  rw [hk _ h1, hk _ h0]
  rfl

theorem wf_enterInterrupt {s : State} (h : Memory.wf s.mem = true) (r : Word) (p : Byte) (v : Word) :
    Memory.wf (enterInterrupt r p v s).mem = true :=
  wf_push (wf_pushWord h r) p

@[simp] theorem returnFromInterrupt_ac (s : State) : (returnFromInterrupt s).ac = s.ac := rfl
@[simp] theorem returnFromInterrupt_x (s : State) : (returnFromInterrupt s).x = s.x := rfl
@[simp] theorem returnFromInterrupt_y (s : State) : (returnFromInterrupt s).y = s.y := rfl
@[simp] theorem returnFromInterrupt_mem (s : State) : (returnFromInterrupt s).mem = s.mem := rfl
@[simp] theorem returnFromInterrupt_resetDone (s : State) : (returnFromInterrupt s).resetDone = s.resetDone := rfl
@[simp] theorem returnFromInterrupt_fault (s : State) : (returnFromInterrupt s).fault = s.fault := rfl
@[simp] theorem returnFromInterrupt_config (s : State) : (returnFromInterrupt s).config = s.config := rfl
theorem returnFromInterrupt_sp (s : State) : (returnFromInterrupt s).sp = s.sp + 1 + 1 + 1 := rfl
theorem returnFromInterrupt_status (s : State) : (returnFromInterrupt s).status = rtiStatus (pullByte s) := rfl
theorem returnFromInterrupt_pc (s : State) :
    (returnFromInterrupt s).pc =
      join (memRead (stackAddr (s.sp + 1 + 1 + 1)) s) (memRead (stackAddr (s.sp + 1 + 1)) s) := rfl
@[simp] theorem memRead_returnFromInterrupt (a : Word) (s : State) :
    memRead a (returnFromInterrupt s) = memRead a s := rfl

/-! ## Branches -/

@[simp] theorem branchOn_ac (g : Flag) (e : Bool) (d : Descriptor) (s : State) : (branchOn g e d s).ac = s.ac := by
  unfold branchOn; split <;> rfl
@[simp] theorem branchOn_x (g : Flag) (e : Bool) (d : Descriptor) (s : State) : (branchOn g e d s).x = s.x := by
  unfold branchOn; split <;> rfl
@[simp] theorem branchOn_y (g : Flag) (e : Bool) (d : Descriptor) (s : State) : (branchOn g e d s).y = s.y := by
  unfold branchOn; split <;> rfl
@[simp] theorem branchOn_sp (g : Flag) (e : Bool) (d : Descriptor) (s : State) : (branchOn g e d s).sp = s.sp := by
  unfold branchOn; split <;> rfl
@[simp] theorem branchOn_status (g : Flag) (e : Bool) (d : Descriptor) (s : State) : (branchOn g e d s).status = s.status := by
  unfold branchOn; split <;> rfl
@[simp] theorem branchOn_mem (g : Flag) (e : Bool) (d : Descriptor) (s : State) : (branchOn g e d s).mem = s.mem := by
  unfold branchOn; split <;> rfl
@[simp] theorem branchOn_resetDone (g : Flag) (e : Bool) (d : Descriptor) (s : State) : (branchOn g e d s).resetDone = s.resetDone := by
  unfold branchOn; split <;> rfl
@[simp] theorem branchOn_fault (g : Flag) (e : Bool) (d : Descriptor) (s : State) : (branchOn g e d s).fault = s.fault := by
  unfold branchOn; split <;> rfl
@[simp] theorem branchOn_config (g : Flag) (e : Bool) (d : Descriptor) (s : State) : (branchOn g e d s).config = s.config := by
  unfold branchOn; split <;> rfl
theorem branchOn_pc (g : Flag) (e : Bool) (d : Descriptor) (s : State) :
    (branchOn g e d s).pc = if s.flag g = e then d.val else s.pc + 2 := by
  unfold branchOn; split <;> rfl

end Sys2Proof.Machine
end

