-- ==== Sys2Proof/Laws/Exec.lean ====
section
/-! SUPPORT. `exec` by mnemonic and operand: one equation for all 151 rows, so that a proof splits on 56 mnemonics. -/

namespace Sys2Proof.Machine

/-- The handler of each mnemonic (R81: an instruction tag paired with an addressing-mode resolver). -/
def handle (m : Mnemonic) (o : Operand) (s : State) : State :=
  let d := resolve o s
  match m with
  | .lda => handleLda o s
  | .ldx => handleLdx o s
  | .ldy => handleLdy o s
  | .sta => handleSta o s
  | .stx => handleStx o s
  | .sty => handleSty o s
  | .tax => advance d ((s.setX s.ac).setZN s.ac)
  | .txa => advance d ((s.setAC s.x).setZN s.x)
  | .tay => advance d ((s.setY s.ac).setZN s.ac)
  | .tya => advance d ((s.setAC s.y).setZN s.y)
  | .txs => advance d (s.setSP s.x)
  | .tsx => advance d ((s.setX s.sp).setZN s.sp)
  | .adc => handleAdc o s
  | .sbc => handleSbc o s
  | .inc => handleInc o s
  | .dec => handleDec o s
  | .inx => advance d ((s.setX (s.x + 1)).setZN (s.x + 1))
  | .dex => advance d ((s.setX (s.x - 1)).setZN (s.x - 1))
  | .iny => advance d ((s.setY (s.y + 1)).setZN (s.y + 1))
  | .dey => advance d ((s.setY (s.y - 1)).setZN (s.y - 1))
  | .asl => handleAsl o s
  | .lsr => handleLsr o s
  | .rol => handleRol o s
  | .ror => handleRor o s
  | .and => handleAnd o s
  | .ora => handleOra o s
  | .eor => handleEor o s
  | .bit => handleBit o s
  | .cmp => handleCmp o s
  | .cpx => handleCpx o s
  | .cpy => handleCpy o s
  | .bcc => branchOn .c false d s
  | .bcs => branchOn .c true d s
  | .beq => branchOn .z true d s
  | .bne => branchOn .z false d s
  | .bpl => branchOn .n false d s
  | .bmi => branchOn .n true d s
  | .bvc => branchOn .v false d s
  | .bvs => branchOn .v true d s
  | .jmp => handleJmp o s
  | .jsr => (pushWord (s.pc + 2) s).setPC d.val
  | .rts => (pulledWord s).setPC (pullWord s + 1)
  | .brk => enterInterrupt (s.pc + 2) (pushedStatus s.status) Config.brkVector s
  | .rti => returnFromInterrupt s
  | .pha => advance d (push s.ac s)
  | .php => advance d (push (pushedStatus s.status) s)
  | .pla => advance d (if s.config.plaSetsZN then ((pulled s).setAC (pullByte s)).setZN (pullByte s)
      else (pulled s).setAC (pullByte s))
  | .plp => advance d ((pulled s).setStatus (plpStatus (pullByte s) s.status))
  | .clc => advance d (s.setFlag .c false)
  | .sec => advance d (s.setFlag .c true)
  | .cli => advance d (s.setFlag .i false)
  | .sei => advance d (s.setFlag .i true)
  | .cld => advance d (s.setFlag .d false)
  | .sed => advance d (s.setFlag .d true)
  | .clv => advance d (s.setFlag .v false)
  | .nop => advance d s

/-- Every instruction answers a next state: what its mnemonic's handler makes of its operand. -/
theorem exec_eq (i : Instr) (s : State) : exec i s = .next (handle i.mnemonic i.operand s) := by
  cases i <;> rfl

theorem exec_next_iff (i : Instr) (s t : State) : exec i s = .next t ↔ t = handle i.mnemonic i.operand s := by
  rw [exec_eq]; exact ⟨fun h => (Host.Outcome.next.inj h).symm, fun h => by rw [h]⟩

end Sys2Proof.Machine
end

