-- ==== Sys2Proof/Laws/PerInstr.lean ====
section
/-! SUPPORT. Facts about every instruction as syntax, one lemma for each constructor. -/

/-- What every opcode-table row says of its instruction (R81, R82, R119): its mode is one its rule accepts, its encoding has
the length its mode gives, and the table entry of its opcode byte makes it of its operand bytes. -/
def Sys2Proof.Laws.TableRow.Statement (i : Sys2Proof.Instr) : Prop :=
  i.wellFormed = true ∧ (Sys2Proof.encode i).length = i.length ∧
  ∃ e, Sys2Proof.lookupOpcode i.opcode = some e ∧ ∀ rest, e.decode (i.operand.bytes ++ rest) = .ok (i, rest)

namespace Sys2Proof.Laws.TableRow

open Sys2Proof

/-- An entry of format F2 makes its instruction of an address, low byte first. -/
theorem f2_decode (mk : Word → Instr) (w : Word) (rest : List Byte) :
    (Entry.f2 mk).decode ([Machine.lo w, Machine.hi w] ++ rest) = .ok (mk w, rest) := by
  simp [Entry.decode, Machine.join_hi_lo]

theorem ldaImmediate (imm : Byte) : Statement (.ldaImmediate imm) :=
  ⟨rfl, rfl, .f1 .ldaImmediate, rfl, fun _ => rfl⟩
theorem ldaZeroPage (zp : Byte) : Statement (.ldaZeroPage zp) :=
  ⟨rfl, rfl, .f1 .ldaZeroPage, rfl, fun _ => rfl⟩
theorem ldaZeroPageX (zp : Byte) : Statement (.ldaZeroPageX zp) :=
  ⟨rfl, rfl, .f1 .ldaZeroPageX, rfl, fun _ => rfl⟩
theorem ldaAbsolute (addr : Word) : Statement (.ldaAbsolute addr) :=
  ⟨rfl, rfl, .f2 .ldaAbsolute, rfl, f2_decode .ldaAbsolute addr⟩
theorem ldaAbsoluteX (addr : Word) : Statement (.ldaAbsoluteX addr) :=
  ⟨rfl, rfl, .f2 .ldaAbsoluteX, rfl, f2_decode .ldaAbsoluteX addr⟩
theorem ldaAbsoluteY (addr : Word) : Statement (.ldaAbsoluteY addr) :=
  ⟨rfl, rfl, .f2 .ldaAbsoluteY, rfl, f2_decode .ldaAbsoluteY addr⟩
theorem ldaIndexedIndirect (zp : Byte) : Statement (.ldaIndexedIndirect zp) :=
  ⟨rfl, rfl, .f1 .ldaIndexedIndirect, rfl, fun _ => rfl⟩
theorem ldaIndirectIndexed (zp : Byte) : Statement (.ldaIndirectIndexed zp) :=
  ⟨rfl, rfl, .f1 .ldaIndirectIndexed, rfl, fun _ => rfl⟩
theorem ldxImmediate (imm : Byte) : Statement (.ldxImmediate imm) :=
  ⟨rfl, rfl, .f1 .ldxImmediate, rfl, fun _ => rfl⟩
theorem ldxZeroPage (zp : Byte) : Statement (.ldxZeroPage zp) :=
  ⟨rfl, rfl, .f1 .ldxZeroPage, rfl, fun _ => rfl⟩
theorem ldxZeroPageY (zp : Byte) : Statement (.ldxZeroPageY zp) :=
  ⟨rfl, rfl, .f1 .ldxZeroPageY, rfl, fun _ => rfl⟩
theorem ldxAbsolute (addr : Word) : Statement (.ldxAbsolute addr) :=
  ⟨rfl, rfl, .f2 .ldxAbsolute, rfl, f2_decode .ldxAbsolute addr⟩
theorem ldxAbsoluteY (addr : Word) : Statement (.ldxAbsoluteY addr) :=
  ⟨rfl, rfl, .f2 .ldxAbsoluteY, rfl, f2_decode .ldxAbsoluteY addr⟩
theorem ldyImmediate (imm : Byte) : Statement (.ldyImmediate imm) :=
  ⟨rfl, rfl, .f1 .ldyImmediate, rfl, fun _ => rfl⟩
theorem ldyZeroPage (zp : Byte) : Statement (.ldyZeroPage zp) :=
  ⟨rfl, rfl, .f1 .ldyZeroPage, rfl, fun _ => rfl⟩
theorem ldyZeroPageX (zp : Byte) : Statement (.ldyZeroPageX zp) :=
  ⟨rfl, rfl, .f1 .ldyZeroPageX, rfl, fun _ => rfl⟩
theorem ldyAbsolute (addr : Word) : Statement (.ldyAbsolute addr) :=
  ⟨rfl, rfl, .f2 .ldyAbsolute, rfl, f2_decode .ldyAbsolute addr⟩
theorem ldyAbsoluteX (addr : Word) : Statement (.ldyAbsoluteX addr) :=
  ⟨rfl, rfl, .f2 .ldyAbsoluteX, rfl, f2_decode .ldyAbsoluteX addr⟩
theorem staZeroPage (zp : Byte) : Statement (.staZeroPage zp) :=
  ⟨rfl, rfl, .f1 .staZeroPage, rfl, fun _ => rfl⟩
theorem staZeroPageX (zp : Byte) : Statement (.staZeroPageX zp) :=
  ⟨rfl, rfl, .f1 .staZeroPageX, rfl, fun _ => rfl⟩
theorem staAbsolute (addr : Word) : Statement (.staAbsolute addr) :=
  ⟨rfl, rfl, .f2 .staAbsolute, rfl, f2_decode .staAbsolute addr⟩
theorem staAbsoluteX (addr : Word) : Statement (.staAbsoluteX addr) :=
  ⟨rfl, rfl, .f2 .staAbsoluteX, rfl, f2_decode .staAbsoluteX addr⟩
theorem staAbsoluteY (addr : Word) : Statement (.staAbsoluteY addr) :=
  ⟨rfl, rfl, .f2 .staAbsoluteY, rfl, f2_decode .staAbsoluteY addr⟩
theorem staIndexedIndirect (zp : Byte) : Statement (.staIndexedIndirect zp) :=
  ⟨rfl, rfl, .f1 .staIndexedIndirect, rfl, fun _ => rfl⟩
theorem staIndirectIndexed (zp : Byte) : Statement (.staIndirectIndexed zp) :=
  ⟨rfl, rfl, .f1 .staIndirectIndexed, rfl, fun _ => rfl⟩
theorem stxZeroPage (zp : Byte) : Statement (.stxZeroPage zp) :=
  ⟨rfl, rfl, .f1 .stxZeroPage, rfl, fun _ => rfl⟩
theorem stxZeroPageY (zp : Byte) : Statement (.stxZeroPageY zp) :=
  ⟨rfl, rfl, .f1 .stxZeroPageY, rfl, fun _ => rfl⟩
theorem stxAbsolute (addr : Word) : Statement (.stxAbsolute addr) :=
  ⟨rfl, rfl, .f2 .stxAbsolute, rfl, f2_decode .stxAbsolute addr⟩
theorem styZeroPage (zp : Byte) : Statement (.styZeroPage zp) :=
  ⟨rfl, rfl, .f1 .styZeroPage, rfl, fun _ => rfl⟩
theorem styZeroPageX (zp : Byte) : Statement (.styZeroPageX zp) :=
  ⟨rfl, rfl, .f1 .styZeroPageX, rfl, fun _ => rfl⟩
theorem styAbsolute (addr : Word) : Statement (.styAbsolute addr) :=
  ⟨rfl, rfl, .f2 .styAbsolute, rfl, f2_decode .styAbsolute addr⟩
theorem tax : Statement .tax :=
  ⟨rfl, rfl, .f0 .tax, rfl, fun _ => rfl⟩
theorem txa : Statement .txa :=
  ⟨rfl, rfl, .f0 .txa, rfl, fun _ => rfl⟩
theorem tay : Statement .tay :=
  ⟨rfl, rfl, .f0 .tay, rfl, fun _ => rfl⟩
theorem tya : Statement .tya :=
  ⟨rfl, rfl, .f0 .tya, rfl, fun _ => rfl⟩
theorem txs : Statement .txs :=
  ⟨rfl, rfl, .f0 .txs, rfl, fun _ => rfl⟩
theorem tsx : Statement .tsx :=
  ⟨rfl, rfl, .f0 .tsx, rfl, fun _ => rfl⟩
theorem adcImmediate (imm : Byte) : Statement (.adcImmediate imm) :=
  ⟨rfl, rfl, .f1 .adcImmediate, rfl, fun _ => rfl⟩
theorem adcZeroPage (zp : Byte) : Statement (.adcZeroPage zp) :=
  ⟨rfl, rfl, .f1 .adcZeroPage, rfl, fun _ => rfl⟩
theorem adcZeroPageX (zp : Byte) : Statement (.adcZeroPageX zp) :=
  ⟨rfl, rfl, .f1 .adcZeroPageX, rfl, fun _ => rfl⟩
theorem adcAbsolute (addr : Word) : Statement (.adcAbsolute addr) :=
  ⟨rfl, rfl, .f2 .adcAbsolute, rfl, f2_decode .adcAbsolute addr⟩
theorem adcAbsoluteX (addr : Word) : Statement (.adcAbsoluteX addr) :=
  ⟨rfl, rfl, .f2 .adcAbsoluteX, rfl, f2_decode .adcAbsoluteX addr⟩
theorem adcAbsoluteY (addr : Word) : Statement (.adcAbsoluteY addr) :=
  ⟨rfl, rfl, .f2 .adcAbsoluteY, rfl, f2_decode .adcAbsoluteY addr⟩
theorem adcIndexedIndirect (zp : Byte) : Statement (.adcIndexedIndirect zp) :=
  ⟨rfl, rfl, .f1 .adcIndexedIndirect, rfl, fun _ => rfl⟩
theorem adcIndirectIndexed (zp : Byte) : Statement (.adcIndirectIndexed zp) :=
  ⟨rfl, rfl, .f1 .adcIndirectIndexed, rfl, fun _ => rfl⟩
theorem sbcImmediate (imm : Byte) : Statement (.sbcImmediate imm) :=
  ⟨rfl, rfl, .f1 .sbcImmediate, rfl, fun _ => rfl⟩
theorem sbcZeroPage (zp : Byte) : Statement (.sbcZeroPage zp) :=
  ⟨rfl, rfl, .f1 .sbcZeroPage, rfl, fun _ => rfl⟩
theorem sbcZeroPageX (zp : Byte) : Statement (.sbcZeroPageX zp) :=
  ⟨rfl, rfl, .f1 .sbcZeroPageX, rfl, fun _ => rfl⟩
theorem sbcAbsolute (addr : Word) : Statement (.sbcAbsolute addr) :=
  ⟨rfl, rfl, .f2 .sbcAbsolute, rfl, f2_decode .sbcAbsolute addr⟩
theorem sbcAbsoluteX (addr : Word) : Statement (.sbcAbsoluteX addr) :=
  ⟨rfl, rfl, .f2 .sbcAbsoluteX, rfl, f2_decode .sbcAbsoluteX addr⟩
theorem sbcAbsoluteY (addr : Word) : Statement (.sbcAbsoluteY addr) :=
  ⟨rfl, rfl, .f2 .sbcAbsoluteY, rfl, f2_decode .sbcAbsoluteY addr⟩
theorem sbcIndexedIndirect (zp : Byte) : Statement (.sbcIndexedIndirect zp) :=
  ⟨rfl, rfl, .f1 .sbcIndexedIndirect, rfl, fun _ => rfl⟩
theorem sbcIndirectIndexed (zp : Byte) : Statement (.sbcIndirectIndexed zp) :=
  ⟨rfl, rfl, .f1 .sbcIndirectIndexed, rfl, fun _ => rfl⟩
theorem incZeroPage (zp : Byte) : Statement (.incZeroPage zp) :=
  ⟨rfl, rfl, .f1 .incZeroPage, rfl, fun _ => rfl⟩
theorem incZeroPageX (zp : Byte) : Statement (.incZeroPageX zp) :=
  ⟨rfl, rfl, .f1 .incZeroPageX, rfl, fun _ => rfl⟩
theorem incAbsolute (addr : Word) : Statement (.incAbsolute addr) :=
  ⟨rfl, rfl, .f2 .incAbsolute, rfl, f2_decode .incAbsolute addr⟩
theorem incAbsoluteX (addr : Word) : Statement (.incAbsoluteX addr) :=
  ⟨rfl, rfl, .f2 .incAbsoluteX, rfl, f2_decode .incAbsoluteX addr⟩
theorem decZeroPage (zp : Byte) : Statement (.decZeroPage zp) :=
  ⟨rfl, rfl, .f1 .decZeroPage, rfl, fun _ => rfl⟩
theorem decZeroPageX (zp : Byte) : Statement (.decZeroPageX zp) :=
  ⟨rfl, rfl, .f1 .decZeroPageX, rfl, fun _ => rfl⟩
theorem decAbsolute (addr : Word) : Statement (.decAbsolute addr) :=
  ⟨rfl, rfl, .f2 .decAbsolute, rfl, f2_decode .decAbsolute addr⟩
theorem decAbsoluteX (addr : Word) : Statement (.decAbsoluteX addr) :=
  ⟨rfl, rfl, .f2 .decAbsoluteX, rfl, f2_decode .decAbsoluteX addr⟩
theorem inx : Statement .inx :=
  ⟨rfl, rfl, .f0 .inx, rfl, fun _ => rfl⟩
theorem dex : Statement .dex :=
  ⟨rfl, rfl, .f0 .dex, rfl, fun _ => rfl⟩
theorem iny : Statement .iny :=
  ⟨rfl, rfl, .f0 .iny, rfl, fun _ => rfl⟩
theorem dey : Statement .dey :=
  ⟨rfl, rfl, .f0 .dey, rfl, fun _ => rfl⟩
theorem aslAccumulator : Statement .aslAccumulator :=
  ⟨rfl, rfl, .f0 .aslAccumulator, rfl, fun _ => rfl⟩
theorem aslZeroPage (zp : Byte) : Statement (.aslZeroPage zp) :=
  ⟨rfl, rfl, .f1 .aslZeroPage, rfl, fun _ => rfl⟩
theorem aslZeroPageX (zp : Byte) : Statement (.aslZeroPageX zp) :=
  ⟨rfl, rfl, .f1 .aslZeroPageX, rfl, fun _ => rfl⟩
theorem aslAbsolute (addr : Word) : Statement (.aslAbsolute addr) :=
  ⟨rfl, rfl, .f2 .aslAbsolute, rfl, f2_decode .aslAbsolute addr⟩
theorem aslAbsoluteX (addr : Word) : Statement (.aslAbsoluteX addr) :=
  ⟨rfl, rfl, .f2 .aslAbsoluteX, rfl, f2_decode .aslAbsoluteX addr⟩
theorem lsrAccumulator : Statement .lsrAccumulator :=
  ⟨rfl, rfl, .f0 .lsrAccumulator, rfl, fun _ => rfl⟩
theorem lsrZeroPage (zp : Byte) : Statement (.lsrZeroPage zp) :=
  ⟨rfl, rfl, .f1 .lsrZeroPage, rfl, fun _ => rfl⟩
theorem lsrZeroPageX (zp : Byte) : Statement (.lsrZeroPageX zp) :=
  ⟨rfl, rfl, .f1 .lsrZeroPageX, rfl, fun _ => rfl⟩
theorem lsrAbsolute (addr : Word) : Statement (.lsrAbsolute addr) :=
  ⟨rfl, rfl, .f2 .lsrAbsolute, rfl, f2_decode .lsrAbsolute addr⟩
theorem lsrAbsoluteX (addr : Word) : Statement (.lsrAbsoluteX addr) :=
  ⟨rfl, rfl, .f2 .lsrAbsoluteX, rfl, f2_decode .lsrAbsoluteX addr⟩
theorem rolAccumulator : Statement .rolAccumulator :=
  ⟨rfl, rfl, .f0 .rolAccumulator, rfl, fun _ => rfl⟩
theorem rolZeroPage (zp : Byte) : Statement (.rolZeroPage zp) :=
  ⟨rfl, rfl, .f1 .rolZeroPage, rfl, fun _ => rfl⟩
theorem rolZeroPageX (zp : Byte) : Statement (.rolZeroPageX zp) :=
  ⟨rfl, rfl, .f1 .rolZeroPageX, rfl, fun _ => rfl⟩
theorem rolAbsolute (addr : Word) : Statement (.rolAbsolute addr) :=
  ⟨rfl, rfl, .f2 .rolAbsolute, rfl, f2_decode .rolAbsolute addr⟩
theorem rolAbsoluteX (addr : Word) : Statement (.rolAbsoluteX addr) :=
  ⟨rfl, rfl, .f2 .rolAbsoluteX, rfl, f2_decode .rolAbsoluteX addr⟩
theorem rorAccumulator : Statement .rorAccumulator :=
  ⟨rfl, rfl, .f0 .rorAccumulator, rfl, fun _ => rfl⟩
theorem rorZeroPage (zp : Byte) : Statement (.rorZeroPage zp) :=
  ⟨rfl, rfl, .f1 .rorZeroPage, rfl, fun _ => rfl⟩
theorem rorZeroPageX (zp : Byte) : Statement (.rorZeroPageX zp) :=
  ⟨rfl, rfl, .f1 .rorZeroPageX, rfl, fun _ => rfl⟩
theorem rorAbsolute (addr : Word) : Statement (.rorAbsolute addr) :=
  ⟨rfl, rfl, .f2 .rorAbsolute, rfl, f2_decode .rorAbsolute addr⟩
theorem rorAbsoluteX (addr : Word) : Statement (.rorAbsoluteX addr) :=
  ⟨rfl, rfl, .f2 .rorAbsoluteX, rfl, f2_decode .rorAbsoluteX addr⟩
theorem andImmediate (imm : Byte) : Statement (.andImmediate imm) :=
  ⟨rfl, rfl, .f1 .andImmediate, rfl, fun _ => rfl⟩
theorem andZeroPage (zp : Byte) : Statement (.andZeroPage zp) :=
  ⟨rfl, rfl, .f1 .andZeroPage, rfl, fun _ => rfl⟩
theorem andZeroPageX (zp : Byte) : Statement (.andZeroPageX zp) :=
  ⟨rfl, rfl, .f1 .andZeroPageX, rfl, fun _ => rfl⟩
theorem andAbsolute (addr : Word) : Statement (.andAbsolute addr) :=
  ⟨rfl, rfl, .f2 .andAbsolute, rfl, f2_decode .andAbsolute addr⟩
theorem andAbsoluteX (addr : Word) : Statement (.andAbsoluteX addr) :=
  ⟨rfl, rfl, .f2 .andAbsoluteX, rfl, f2_decode .andAbsoluteX addr⟩
theorem andAbsoluteY (addr : Word) : Statement (.andAbsoluteY addr) :=
  ⟨rfl, rfl, .f2 .andAbsoluteY, rfl, f2_decode .andAbsoluteY addr⟩
theorem andIndexedIndirect (zp : Byte) : Statement (.andIndexedIndirect zp) :=
  ⟨rfl, rfl, .f1 .andIndexedIndirect, rfl, fun _ => rfl⟩
theorem andIndirectIndexed (zp : Byte) : Statement (.andIndirectIndexed zp) :=
  ⟨rfl, rfl, .f1 .andIndirectIndexed, rfl, fun _ => rfl⟩
theorem oraImmediate (imm : Byte) : Statement (.oraImmediate imm) :=
  ⟨rfl, rfl, .f1 .oraImmediate, rfl, fun _ => rfl⟩
theorem oraZeroPage (zp : Byte) : Statement (.oraZeroPage zp) :=
  ⟨rfl, rfl, .f1 .oraZeroPage, rfl, fun _ => rfl⟩
theorem oraZeroPageX (zp : Byte) : Statement (.oraZeroPageX zp) :=
  ⟨rfl, rfl, .f1 .oraZeroPageX, rfl, fun _ => rfl⟩
theorem oraAbsolute (addr : Word) : Statement (.oraAbsolute addr) :=
  ⟨rfl, rfl, .f2 .oraAbsolute, rfl, f2_decode .oraAbsolute addr⟩
theorem oraAbsoluteX (addr : Word) : Statement (.oraAbsoluteX addr) :=
  ⟨rfl, rfl, .f2 .oraAbsoluteX, rfl, f2_decode .oraAbsoluteX addr⟩
theorem oraAbsoluteY (addr : Word) : Statement (.oraAbsoluteY addr) :=
  ⟨rfl, rfl, .f2 .oraAbsoluteY, rfl, f2_decode .oraAbsoluteY addr⟩
theorem oraIndexedIndirect (zp : Byte) : Statement (.oraIndexedIndirect zp) :=
  ⟨rfl, rfl, .f1 .oraIndexedIndirect, rfl, fun _ => rfl⟩
theorem oraIndirectIndexed (zp : Byte) : Statement (.oraIndirectIndexed zp) :=
  ⟨rfl, rfl, .f1 .oraIndirectIndexed, rfl, fun _ => rfl⟩
theorem eorImmediate (imm : Byte) : Statement (.eorImmediate imm) :=
  ⟨rfl, rfl, .f1 .eorImmediate, rfl, fun _ => rfl⟩
theorem eorZeroPage (zp : Byte) : Statement (.eorZeroPage zp) :=
  ⟨rfl, rfl, .f1 .eorZeroPage, rfl, fun _ => rfl⟩
theorem eorZeroPageX (zp : Byte) : Statement (.eorZeroPageX zp) :=
  ⟨rfl, rfl, .f1 .eorZeroPageX, rfl, fun _ => rfl⟩
theorem eorAbsolute (addr : Word) : Statement (.eorAbsolute addr) :=
  ⟨rfl, rfl, .f2 .eorAbsolute, rfl, f2_decode .eorAbsolute addr⟩
theorem eorAbsoluteX (addr : Word) : Statement (.eorAbsoluteX addr) :=
  ⟨rfl, rfl, .f2 .eorAbsoluteX, rfl, f2_decode .eorAbsoluteX addr⟩
theorem eorAbsoluteY (addr : Word) : Statement (.eorAbsoluteY addr) :=
  ⟨rfl, rfl, .f2 .eorAbsoluteY, rfl, f2_decode .eorAbsoluteY addr⟩
theorem eorIndexedIndirect (zp : Byte) : Statement (.eorIndexedIndirect zp) :=
  ⟨rfl, rfl, .f1 .eorIndexedIndirect, rfl, fun _ => rfl⟩
theorem eorIndirectIndexed (zp : Byte) : Statement (.eorIndirectIndexed zp) :=
  ⟨rfl, rfl, .f1 .eorIndirectIndexed, rfl, fun _ => rfl⟩
theorem bitZeroPage (zp : Byte) : Statement (.bitZeroPage zp) :=
  ⟨rfl, rfl, .f1 .bitZeroPage, rfl, fun _ => rfl⟩
theorem bitAbsolute (addr : Word) : Statement (.bitAbsolute addr) :=
  ⟨rfl, rfl, .f2 .bitAbsolute, rfl, f2_decode .bitAbsolute addr⟩
theorem cmpImmediate (imm : Byte) : Statement (.cmpImmediate imm) :=
  ⟨rfl, rfl, .f1 .cmpImmediate, rfl, fun _ => rfl⟩
theorem cmpZeroPage (zp : Byte) : Statement (.cmpZeroPage zp) :=
  ⟨rfl, rfl, .f1 .cmpZeroPage, rfl, fun _ => rfl⟩
theorem cmpZeroPageX (zp : Byte) : Statement (.cmpZeroPageX zp) :=
  ⟨rfl, rfl, .f1 .cmpZeroPageX, rfl, fun _ => rfl⟩
theorem cmpAbsolute (addr : Word) : Statement (.cmpAbsolute addr) :=
  ⟨rfl, rfl, .f2 .cmpAbsolute, rfl, f2_decode .cmpAbsolute addr⟩
theorem cmpAbsoluteX (addr : Word) : Statement (.cmpAbsoluteX addr) :=
  ⟨rfl, rfl, .f2 .cmpAbsoluteX, rfl, f2_decode .cmpAbsoluteX addr⟩
theorem cmpAbsoluteY (addr : Word) : Statement (.cmpAbsoluteY addr) :=
  ⟨rfl, rfl, .f2 .cmpAbsoluteY, rfl, f2_decode .cmpAbsoluteY addr⟩
theorem cmpIndexedIndirect (zp : Byte) : Statement (.cmpIndexedIndirect zp) :=
  ⟨rfl, rfl, .f1 .cmpIndexedIndirect, rfl, fun _ => rfl⟩
theorem cmpIndirectIndexed (zp : Byte) : Statement (.cmpIndirectIndexed zp) :=
  ⟨rfl, rfl, .f1 .cmpIndirectIndexed, rfl, fun _ => rfl⟩
theorem cpxImmediate (imm : Byte) : Statement (.cpxImmediate imm) :=
  ⟨rfl, rfl, .f1 .cpxImmediate, rfl, fun _ => rfl⟩
theorem cpxZeroPage (zp : Byte) : Statement (.cpxZeroPage zp) :=
  ⟨rfl, rfl, .f1 .cpxZeroPage, rfl, fun _ => rfl⟩
theorem cpxAbsolute (addr : Word) : Statement (.cpxAbsolute addr) :=
  ⟨rfl, rfl, .f2 .cpxAbsolute, rfl, f2_decode .cpxAbsolute addr⟩
theorem cpyImmediate (imm : Byte) : Statement (.cpyImmediate imm) :=
  ⟨rfl, rfl, .f1 .cpyImmediate, rfl, fun _ => rfl⟩
theorem cpyZeroPage (zp : Byte) : Statement (.cpyZeroPage zp) :=
  ⟨rfl, rfl, .f1 .cpyZeroPage, rfl, fun _ => rfl⟩
theorem cpyAbsolute (addr : Word) : Statement (.cpyAbsolute addr) :=
  ⟨rfl, rfl, .f2 .cpyAbsolute, rfl, f2_decode .cpyAbsolute addr⟩
theorem bcc (off : Byte) : Statement (.bcc off) :=
  ⟨rfl, rfl, .f1 .bcc, rfl, fun _ => rfl⟩
theorem bcs (off : Byte) : Statement (.bcs off) :=
  ⟨rfl, rfl, .f1 .bcs, rfl, fun _ => rfl⟩
theorem beq (off : Byte) : Statement (.beq off) :=
  ⟨rfl, rfl, .f1 .beq, rfl, fun _ => rfl⟩
theorem bne (off : Byte) : Statement (.bne off) :=
  ⟨rfl, rfl, .f1 .bne, rfl, fun _ => rfl⟩
theorem bpl (off : Byte) : Statement (.bpl off) :=
  ⟨rfl, rfl, .f1 .bpl, rfl, fun _ => rfl⟩
theorem bmi (off : Byte) : Statement (.bmi off) :=
  ⟨rfl, rfl, .f1 .bmi, rfl, fun _ => rfl⟩
theorem bvc (off : Byte) : Statement (.bvc off) :=
  ⟨rfl, rfl, .f1 .bvc, rfl, fun _ => rfl⟩
theorem bvs (off : Byte) : Statement (.bvs off) :=
  ⟨rfl, rfl, .f1 .bvs, rfl, fun _ => rfl⟩
theorem jmpAbsolute (addr : Word) : Statement (.jmpAbsolute addr) :=
  ⟨rfl, rfl, .f2 .jmpAbsolute, rfl, f2_decode .jmpAbsolute addr⟩
theorem jmpIndirect (ptr : Word) : Statement (.jmpIndirect ptr) :=
  ⟨rfl, rfl, .f2 .jmpIndirect, rfl, f2_decode .jmpIndirect ptr⟩
theorem jsr (addr : Word) : Statement (.jsr addr) :=
  ⟨rfl, rfl, .f2 .jsr, rfl, f2_decode .jsr addr⟩
theorem rts : Statement .rts :=
  ⟨rfl, rfl, .f0 .rts, rfl, fun _ => rfl⟩
theorem brk : Statement .brk :=
  ⟨rfl, rfl, .f0 .brk, rfl, fun _ => rfl⟩
theorem rti : Statement .rti :=
  ⟨rfl, rfl, .f0 .rti, rfl, fun _ => rfl⟩
theorem pha : Statement .pha :=
  ⟨rfl, rfl, .f0 .pha, rfl, fun _ => rfl⟩
theorem php : Statement .php :=
  ⟨rfl, rfl, .f0 .php, rfl, fun _ => rfl⟩
theorem pla : Statement .pla :=
  ⟨rfl, rfl, .f0 .pla, rfl, fun _ => rfl⟩
theorem plp : Statement .plp :=
  ⟨rfl, rfl, .f0 .plp, rfl, fun _ => rfl⟩
theorem clc : Statement .clc :=
  ⟨rfl, rfl, .f0 .clc, rfl, fun _ => rfl⟩
theorem sec : Statement .sec :=
  ⟨rfl, rfl, .f0 .sec, rfl, fun _ => rfl⟩
theorem cli : Statement .cli :=
  ⟨rfl, rfl, .f0 .cli, rfl, fun _ => rfl⟩
theorem sei : Statement .sei :=
  ⟨rfl, rfl, .f0 .sei, rfl, fun _ => rfl⟩
theorem cld : Statement .cld :=
  ⟨rfl, rfl, .f0 .cld, rfl, fun _ => rfl⟩
theorem sed : Statement .sed :=
  ⟨rfl, rfl, .f0 .sed, rfl, fun _ => rfl⟩
theorem clv : Statement .clv :=
  ⟨rfl, rfl, .f0 .clv, rfl, fun _ => rfl⟩
theorem nop : Statement .nop :=
  ⟨rfl, rfl, .f0 .nop, rfl, fun _ => rfl⟩

end Sys2Proof.Laws.TableRow
end

