-- ==== Sys2Proof/Laws/Step.lean ====
section
/-! SUPPORT. What a Step can do, said once, and what no instruction touches. -/

namespace Sys2Proof.Machine

theorem refuseCall_eq_none_iff (s : State) : refuseCall s = none ↔ s.Ready := by
  cases hr : s.resetDone <;> cases hf : s.fault <;> simp [refuseCall, State.Ready, hr, hf]

/-- An opcode with a table entry decodes whenever two more bytes are there. -/
theorem decode_of_lookup {b : Byte} {e : Entry} (h : lookupOpcode b = some e) (b1 b2 : Byte) (rest : List Byte) :
    ∃ i r, decode (b :: b1 :: b2 :: rest) = .ok (i, r) := by
  simp only [decode, h]; cases e <;> exact ⟨_, _, rfl⟩

/-- The fetch always reads enough bytes: it fails only on an opcode with no table entry (R240). -/
theorem lookup_of_fetch_error {s : State} {e : DecodeError} (h : decode (fetchBytes s) = .error e) :
    lookupOpcode (memRead s.pc s) = none := by
  cases hl : lookupOpcode (memRead s.pc s) with
  | none => rfl
  | some e' =>
    obtain ⟨i, r, hd⟩ := decode_of_lookup hl (memRead (s.pc + 1) s) (memRead (s.pc + 2) s) []
    rw [fetchBytes, hd] at h; cases h

/-- The three ways a Step can end (R88, R240, R241, R270). -/
theorem step_cases (s : State) :
    (∃ r, refuseCall s = some r ∧ step s = .refused r) ∨
    (s.Ready ∧ lookupOpcode (memRead s.pc s) = none ∧ step s = .fault (invalidOpcodeAt s)) ∨
    (s.Ready ∧ ∃ i r, decode (fetchBytes s) = .ok (i, r) ∧ step s = .next (handle i.mnemonic i.operand s)) := by
  cases h : refuseCall s with
  | some r => left; exact ⟨r, rfl, by simp only [step, h]⟩
  | none =>
    right
    rw [refuseCall_eq_none_iff] at h
    have h' := (refuseCall_eq_none_iff s).2 h
    cases hd : decode (fetchBytes s) with
    | error e => left; exact ⟨h, lookup_of_fetch_error hd, by simp only [step, h', hd]⟩
    | ok p => right; exact ⟨h, p.1, p.2, rfl, by simp only [step, h', hd, exec_eq]⟩

/-- No instruction touches the hidden pieces of R38 or the parameters of R10. -/
theorem handle_hidden (m : Mnemonic) (o : Operand) (s : State) :
    (handle m o s).resetDone = s.resetDone ∧ (handle m o s).fault = s.fault ∧ (handle m o s).config = s.config := by
  cases m <;> simp [handle, handleLda, handleLdx, handleLdy, handleSta, handleStx, handleSty, handleAdc, handleSbc,
    handleInc, handleDec, handleAsl, handleLsr, handleRol, handleRor, shiftInto, handleAnd, handleOra, handleEor,
    handleBit, handleCmp, handleCpx, handleCpy, handleJmp]
  split <;> simp

end Sys2Proof.Machine
end

