-- ==== Sys2Proof/Tests/Slice0.lean ====
section
/-! SUPPORT. The model's own tests. Expected results come from the spec: the encodings of 30_encoding.md for the decode tests,
the vectors of 95_test_vectors.md (each docstring names its row) for the steps. Last, for each statement with hypotheses, a state
and operands that meet them. -/

namespace Sys2Proof.Tests

open Sys2Proof Sys2Proof.Machine

/-! ## Well-formedness (R119): forms no instruction has -/

theorem test_no_immediate_store :
    accepts .sta .immediate = false ∧ accepts .stx .immediate = false ∧ accepts .sty .immediate = false := by decide
theorem test_stores_index_with_one_register :
    accepts .stx .zeroPageX = false ∧ accepts .sty .zeroPageY = false ∧ accepts .sta .zeroPageY = false := by decide
theorem test_loads_index_with_the_other_register :
    accepts .ldx .absoluteX = false ∧ accepts .ldy .absoluteY = false ∧ accepts .lda .zeroPageY = false := by decide
theorem test_no_accumulator_increment : accepts .inc .accumulator = false ∧ accepts .dec .accumulator = false := by decide
theorem test_no_shift_of_an_immediate : accepts .asl .immediate = false ∧ accepts .ror .absoluteY = false := by decide
theorem test_no_immediate_bit_test : accepts .bit .immediate = false ∧ accepts .cpx .zeroPageX = false := by decide
theorem test_jumps_are_absolute_or_indirect :
    accepts .jmp .relative = false ∧ accepts .jsr .indirect = false ∧ accepts .bne .absolute = false := by decide
theorem test_implicit_takes_no_operand : accepts .nop .immediate = false ∧ accepts .tax .accumulator = false := by decide
theorem test_logic_takes_no_implicit_operand : accepts .and .implicit = false ∧ accepts .cmp .zeroPageY = false := by decide

/-! ## Decoding: every row of the opcode table, its opcode written out in binary, operand bytes 0x34 and 0x12 -/

theorem test_decode_lda :
    decode [0b10101001, 0x34] = .ok (.ldaImmediate 0x34, []) ∧
    decode [0b10100101, 0x34] = .ok (.ldaZeroPage 0x34, []) ∧
    decode [0b10110101, 0x34] = .ok (.ldaZeroPageX 0x34, []) ∧
    decode [0b10101101, 0x34, 0x12] = .ok (.ldaAbsolute 0x1234, []) ∧
    decode [0b10111101, 0x34, 0x12] = .ok (.ldaAbsoluteX 0x1234, []) ∧
    decode [0b10111001, 0x34, 0x12] = .ok (.ldaAbsoluteY 0x1234, []) ∧
    decode [0b10100001, 0x34] = .ok (.ldaIndexedIndirect 0x34, []) ∧
    decode [0b10110001, 0x34] = .ok (.ldaIndirectIndexed 0x34, []) :=
  ⟨rfl, rfl, rfl, rfl, rfl, rfl, rfl, rfl⟩

theorem test_decode_ldx :
    decode [0b10100010, 0x34] = .ok (.ldxImmediate 0x34, []) ∧
    decode [0b10100110, 0x34] = .ok (.ldxZeroPage 0x34, []) ∧
    decode [0b10110110, 0x34] = .ok (.ldxZeroPageY 0x34, []) ∧
    decode [0b10101110, 0x34, 0x12] = .ok (.ldxAbsolute 0x1234, []) ∧
    decode [0b10111110, 0x34, 0x12] = .ok (.ldxAbsoluteY 0x1234, []) :=
  ⟨rfl, rfl, rfl, rfl, rfl⟩

theorem test_decode_ldy :
    decode [0b10100000, 0x34] = .ok (.ldyImmediate 0x34, []) ∧
    decode [0b10100100, 0x34] = .ok (.ldyZeroPage 0x34, []) ∧
    decode [0b10110100, 0x34] = .ok (.ldyZeroPageX 0x34, []) ∧
    decode [0b10101100, 0x34, 0x12] = .ok (.ldyAbsolute 0x1234, []) ∧
    decode [0b10111100, 0x34, 0x12] = .ok (.ldyAbsoluteX 0x1234, []) :=
  ⟨rfl, rfl, rfl, rfl, rfl⟩

theorem test_decode_sta :
    decode [0b10000101, 0x34] = .ok (.staZeroPage 0x34, []) ∧
    decode [0b10010101, 0x34] = .ok (.staZeroPageX 0x34, []) ∧
    decode [0b10001101, 0x34, 0x12] = .ok (.staAbsolute 0x1234, []) ∧
    decode [0b10011101, 0x34, 0x12] = .ok (.staAbsoluteX 0x1234, []) ∧
    decode [0b10011001, 0x34, 0x12] = .ok (.staAbsoluteY 0x1234, []) ∧
    decode [0b10000001, 0x34] = .ok (.staIndexedIndirect 0x34, []) ∧
    decode [0b10010001, 0x34] = .ok (.staIndirectIndexed 0x34, []) :=
  ⟨rfl, rfl, rfl, rfl, rfl, rfl, rfl⟩

theorem test_decode_stx :
    decode [0b10000110, 0x34] = .ok (.stxZeroPage 0x34, []) ∧
    decode [0b10010110, 0x34] = .ok (.stxZeroPageY 0x34, []) ∧
    decode [0b10001110, 0x34, 0x12] = .ok (.stxAbsolute 0x1234, []) :=
  ⟨rfl, rfl, rfl⟩

theorem test_decode_sty :
    decode [0b10000100, 0x34] = .ok (.styZeroPage 0x34, []) ∧
    decode [0b10010100, 0x34] = .ok (.styZeroPageX 0x34, []) ∧
    decode [0b10001100, 0x34, 0x12] = .ok (.styAbsolute 0x1234, []) :=
  ⟨rfl, rfl, rfl⟩

theorem test_decode_tax :
    decode [0b10101010] = .ok (.tax, []) :=
  rfl

theorem test_decode_txa :
    decode [0b10001010] = .ok (.txa, []) :=
  rfl

theorem test_decode_tay :
    decode [0b10101000] = .ok (.tay, []) :=
  rfl

theorem test_decode_tya :
    decode [0b10011000] = .ok (.tya, []) :=
  rfl

theorem test_decode_txs :
    decode [0b10011010] = .ok (.txs, []) :=
  rfl

theorem test_decode_tsx :
    decode [0b10111010] = .ok (.tsx, []) :=
  rfl

theorem test_decode_adc :
    decode [0b01101001, 0x34] = .ok (.adcImmediate 0x34, []) ∧
    decode [0b01100101, 0x34] = .ok (.adcZeroPage 0x34, []) ∧
    decode [0b01110101, 0x34] = .ok (.adcZeroPageX 0x34, []) ∧
    decode [0b01101101, 0x34, 0x12] = .ok (.adcAbsolute 0x1234, []) ∧
    decode [0b01111101, 0x34, 0x12] = .ok (.adcAbsoluteX 0x1234, []) ∧
    decode [0b01111001, 0x34, 0x12] = .ok (.adcAbsoluteY 0x1234, []) ∧
    decode [0b01100001, 0x34] = .ok (.adcIndexedIndirect 0x34, []) ∧
    decode [0b01110001, 0x34] = .ok (.adcIndirectIndexed 0x34, []) :=
  ⟨rfl, rfl, rfl, rfl, rfl, rfl, rfl, rfl⟩

theorem test_decode_sbc :
    decode [0b11101001, 0x34] = .ok (.sbcImmediate 0x34, []) ∧
    decode [0b11100101, 0x34] = .ok (.sbcZeroPage 0x34, []) ∧
    decode [0b11110101, 0x34] = .ok (.sbcZeroPageX 0x34, []) ∧
    decode [0b11101101, 0x34, 0x12] = .ok (.sbcAbsolute 0x1234, []) ∧
    decode [0b11111101, 0x34, 0x12] = .ok (.sbcAbsoluteX 0x1234, []) ∧
    decode [0b11111001, 0x34, 0x12] = .ok (.sbcAbsoluteY 0x1234, []) ∧
    decode [0b11100001, 0x34] = .ok (.sbcIndexedIndirect 0x34, []) ∧
    decode [0b11110001, 0x34] = .ok (.sbcIndirectIndexed 0x34, []) :=
  ⟨rfl, rfl, rfl, rfl, rfl, rfl, rfl, rfl⟩

theorem test_decode_inc :
    decode [0b11100110, 0x34] = .ok (.incZeroPage 0x34, []) ∧
    decode [0b11110110, 0x34] = .ok (.incZeroPageX 0x34, []) ∧
    decode [0b11101110, 0x34, 0x12] = .ok (.incAbsolute 0x1234, []) ∧
    decode [0b11111110, 0x34, 0x12] = .ok (.incAbsoluteX 0x1234, []) :=
  ⟨rfl, rfl, rfl, rfl⟩

theorem test_decode_dec :
    decode [0b11000110, 0x34] = .ok (.decZeroPage 0x34, []) ∧
    decode [0b11010110, 0x34] = .ok (.decZeroPageX 0x34, []) ∧
    decode [0b11001110, 0x34, 0x12] = .ok (.decAbsolute 0x1234, []) ∧
    decode [0b11011110, 0x34, 0x12] = .ok (.decAbsoluteX 0x1234, []) :=
  ⟨rfl, rfl, rfl, rfl⟩

theorem test_decode_inx :
    decode [0b11101000] = .ok (.inx, []) :=
  rfl

theorem test_decode_dex :
    decode [0b11001010] = .ok (.dex, []) :=
  rfl

theorem test_decode_iny :
    decode [0b11001000] = .ok (.iny, []) :=
  rfl

theorem test_decode_dey :
    decode [0b10001000] = .ok (.dey, []) :=
  rfl

theorem test_decode_asl :
    decode [0b00001010] = .ok (.aslAccumulator, []) ∧
    decode [0b00000110, 0x34] = .ok (.aslZeroPage 0x34, []) ∧
    decode [0b00010110, 0x34] = .ok (.aslZeroPageX 0x34, []) ∧
    decode [0b00001110, 0x34, 0x12] = .ok (.aslAbsolute 0x1234, []) ∧
    decode [0b00011110, 0x34, 0x12] = .ok (.aslAbsoluteX 0x1234, []) :=
  ⟨rfl, rfl, rfl, rfl, rfl⟩

theorem test_decode_lsr :
    decode [0b01001010] = .ok (.lsrAccumulator, []) ∧
    decode [0b01000110, 0x34] = .ok (.lsrZeroPage 0x34, []) ∧
    decode [0b01010110, 0x34] = .ok (.lsrZeroPageX 0x34, []) ∧
    decode [0b01001110, 0x34, 0x12] = .ok (.lsrAbsolute 0x1234, []) ∧
    decode [0b01011110, 0x34, 0x12] = .ok (.lsrAbsoluteX 0x1234, []) :=
  ⟨rfl, rfl, rfl, rfl, rfl⟩

theorem test_decode_rol :
    decode [0b00101010] = .ok (.rolAccumulator, []) ∧
    decode [0b00100110, 0x34] = .ok (.rolZeroPage 0x34, []) ∧
    decode [0b00110110, 0x34] = .ok (.rolZeroPageX 0x34, []) ∧
    decode [0b00101110, 0x34, 0x12] = .ok (.rolAbsolute 0x1234, []) ∧
    decode [0b00111110, 0x34, 0x12] = .ok (.rolAbsoluteX 0x1234, []) :=
  ⟨rfl, rfl, rfl, rfl, rfl⟩

theorem test_decode_ror :
    decode [0b01101010] = .ok (.rorAccumulator, []) ∧
    decode [0b01100110, 0x34] = .ok (.rorZeroPage 0x34, []) ∧
    decode [0b01110110, 0x34] = .ok (.rorZeroPageX 0x34, []) ∧
    decode [0b01101110, 0x34, 0x12] = .ok (.rorAbsolute 0x1234, []) ∧
    decode [0b01111110, 0x34, 0x12] = .ok (.rorAbsoluteX 0x1234, []) :=
  ⟨rfl, rfl, rfl, rfl, rfl⟩

theorem test_decode_and :
    decode [0b00101001, 0x34] = .ok (.andImmediate 0x34, []) ∧
    decode [0b00100101, 0x34] = .ok (.andZeroPage 0x34, []) ∧
    decode [0b00110101, 0x34] = .ok (.andZeroPageX 0x34, []) ∧
    decode [0b00101101, 0x34, 0x12] = .ok (.andAbsolute 0x1234, []) ∧
    decode [0b00111101, 0x34, 0x12] = .ok (.andAbsoluteX 0x1234, []) ∧
    decode [0b00111001, 0x34, 0x12] = .ok (.andAbsoluteY 0x1234, []) ∧
    decode [0b00100001, 0x34] = .ok (.andIndexedIndirect 0x34, []) ∧
    decode [0b00110001, 0x34] = .ok (.andIndirectIndexed 0x34, []) :=
  ⟨rfl, rfl, rfl, rfl, rfl, rfl, rfl, rfl⟩

theorem test_decode_ora :
    decode [0b00001001, 0x34] = .ok (.oraImmediate 0x34, []) ∧
    decode [0b00000101, 0x34] = .ok (.oraZeroPage 0x34, []) ∧
    decode [0b00010101, 0x34] = .ok (.oraZeroPageX 0x34, []) ∧
    decode [0b00001101, 0x34, 0x12] = .ok (.oraAbsolute 0x1234, []) ∧
    decode [0b00011101, 0x34, 0x12] = .ok (.oraAbsoluteX 0x1234, []) ∧
    decode [0b00011001, 0x34, 0x12] = .ok (.oraAbsoluteY 0x1234, []) ∧
    decode [0b00000001, 0x34] = .ok (.oraIndexedIndirect 0x34, []) ∧
    decode [0b00010001, 0x34] = .ok (.oraIndirectIndexed 0x34, []) :=
  ⟨rfl, rfl, rfl, rfl, rfl, rfl, rfl, rfl⟩

theorem test_decode_eor :
    decode [0b01001001, 0x34] = .ok (.eorImmediate 0x34, []) ∧
    decode [0b01000101, 0x34] = .ok (.eorZeroPage 0x34, []) ∧
    decode [0b01010101, 0x34] = .ok (.eorZeroPageX 0x34, []) ∧
    decode [0b01001101, 0x34, 0x12] = .ok (.eorAbsolute 0x1234, []) ∧
    decode [0b01011101, 0x34, 0x12] = .ok (.eorAbsoluteX 0x1234, []) ∧
    decode [0b01011001, 0x34, 0x12] = .ok (.eorAbsoluteY 0x1234, []) ∧
    decode [0b01000001, 0x34] = .ok (.eorIndexedIndirect 0x34, []) ∧
    decode [0b01010001, 0x34] = .ok (.eorIndirectIndexed 0x34, []) :=
  ⟨rfl, rfl, rfl, rfl, rfl, rfl, rfl, rfl⟩

theorem test_decode_bit :
    decode [0b00100100, 0x34] = .ok (.bitZeroPage 0x34, []) ∧
    decode [0b00101100, 0x34, 0x12] = .ok (.bitAbsolute 0x1234, []) :=
  ⟨rfl, rfl⟩

theorem test_decode_cmp :
    decode [0b11001001, 0x34] = .ok (.cmpImmediate 0x34, []) ∧
    decode [0b11000101, 0x34] = .ok (.cmpZeroPage 0x34, []) ∧
    decode [0b11010101, 0x34] = .ok (.cmpZeroPageX 0x34, []) ∧
    decode [0b11001101, 0x34, 0x12] = .ok (.cmpAbsolute 0x1234, []) ∧
    decode [0b11011101, 0x34, 0x12] = .ok (.cmpAbsoluteX 0x1234, []) ∧
    decode [0b11011001, 0x34, 0x12] = .ok (.cmpAbsoluteY 0x1234, []) ∧
    decode [0b11000001, 0x34] = .ok (.cmpIndexedIndirect 0x34, []) ∧
    decode [0b11010001, 0x34] = .ok (.cmpIndirectIndexed 0x34, []) :=
  ⟨rfl, rfl, rfl, rfl, rfl, rfl, rfl, rfl⟩

theorem test_decode_cpx :
    decode [0b11100000, 0x34] = .ok (.cpxImmediate 0x34, []) ∧
    decode [0b11100100, 0x34] = .ok (.cpxZeroPage 0x34, []) ∧
    decode [0b11101100, 0x34, 0x12] = .ok (.cpxAbsolute 0x1234, []) :=
  ⟨rfl, rfl, rfl⟩

theorem test_decode_cpy :
    decode [0b11000000, 0x34] = .ok (.cpyImmediate 0x34, []) ∧
    decode [0b11000100, 0x34] = .ok (.cpyZeroPage 0x34, []) ∧
    decode [0b11001100, 0x34, 0x12] = .ok (.cpyAbsolute 0x1234, []) :=
  ⟨rfl, rfl, rfl⟩

theorem test_decode_bcc :
    decode [0b10010000, 0x34] = .ok (.bcc 0x34, []) :=
  rfl

theorem test_decode_bcs :
    decode [0b10110000, 0x34] = .ok (.bcs 0x34, []) :=
  rfl

theorem test_decode_beq :
    decode [0b11110000, 0x34] = .ok (.beq 0x34, []) :=
  rfl

theorem test_decode_bne :
    decode [0b11010000, 0x34] = .ok (.bne 0x34, []) :=
  rfl

theorem test_decode_bpl :
    decode [0b00010000, 0x34] = .ok (.bpl 0x34, []) :=
  rfl

theorem test_decode_bmi :
    decode [0b00110000, 0x34] = .ok (.bmi 0x34, []) :=
  rfl

theorem test_decode_bvc :
    decode [0b01010000, 0x34] = .ok (.bvc 0x34, []) :=
  rfl

theorem test_decode_bvs :
    decode [0b01110000, 0x34] = .ok (.bvs 0x34, []) :=
  rfl

theorem test_decode_jmp :
    decode [0b01001100, 0x34, 0x12] = .ok (.jmpAbsolute 0x1234, []) ∧
    decode [0b01101100, 0x34, 0x12] = .ok (.jmpIndirect 0x1234, []) :=
  ⟨rfl, rfl⟩

theorem test_decode_jsr :
    decode [0b00100000, 0x34, 0x12] = .ok (.jsr 0x1234, []) :=
  rfl

theorem test_decode_rts :
    decode [0b01100000] = .ok (.rts, []) :=
  rfl

theorem test_decode_brk :
    decode [0b00000000] = .ok (.brk, []) :=
  rfl

theorem test_decode_rti :
    decode [0b01000000] = .ok (.rti, []) :=
  rfl

theorem test_decode_pha :
    decode [0b01001000] = .ok (.pha, []) :=
  rfl

theorem test_decode_php :
    decode [0b00001000] = .ok (.php, []) :=
  rfl

theorem test_decode_pla :
    decode [0b01101000] = .ok (.pla, []) :=
  rfl

theorem test_decode_plp :
    decode [0b00101000] = .ok (.plp, []) :=
  rfl

theorem test_decode_clc :
    decode [0b00011000] = .ok (.clc, []) :=
  rfl

theorem test_decode_sec :
    decode [0b00111000] = .ok (.sec, []) :=
  rfl

theorem test_decode_cli :
    decode [0b01011000] = .ok (.cli, []) :=
  rfl

theorem test_decode_sei :
    decode [0b01111000] = .ok (.sei, []) :=
  rfl

theorem test_decode_cld :
    decode [0b11011000] = .ok (.cld, []) :=
  rfl

theorem test_decode_sed :
    decode [0b11111000] = .ok (.sed, []) :=
  rfl

theorem test_decode_clv :
    decode [0b10111000] = .ok (.clv, []) :=
  rfl

theorem test_decode_nop :
    decode [0b11101010] = .ok (.nop, []) :=
  rfl


theorem test_decode_needs_its_operand_bytes : decode [0b10101101, 0x34] = .error .truncated := rfl
theorem test_decode_rejects_by_name : decode [0b00000010, 0x00, 0x00] = .error (.invalidOpcode 0x02) := rfl
theorem test_operand_counts : operandCount 0x00 = some 0 ∧ operandCount 0x20 = some 2 ∧ operandCount 0x02 = none := by decide
theorem test_encode_is_low_byte_first : encode (.jsr 0x1234) = [0b00100000, 0x34, 0x12] := by decide
theorem test_table_word_numbers_byte_0_first : decodeTableWord 24 0x12348D = some (.staAbsolute 0x1234) := by decide
theorem test_table_word_without_operand_bits : decodeTableWord 8 0x12348D = some (.staAbsolute 0x0000) := by decide
theorem test_table_word_unassigned : decodeTableWord 8 0x02 = none := by decide

/-! ## One Step: small states -/

/-- A core at `pc` with these bytes there and the launch values elsewhere. -/
def start (pc : Word) (bytes : List Byte) : State :=
  ((bytes.zipIdx.foldl (fun s c => memLoad (pc + BitVec.ofNat 16 c.2) c.1 s) State.reset)).setPC pc

/-- Bytes placed in memory. -/
def withBytes (s : State) (cells : List (Word × Byte)) : State :=
  cells.foldl (fun s c => memLoad c.1 c.2 s) s

/-- What is looked at in the state after one Step. -/
def after {α : Type} (s : State) (look : State → α) : Option α :=
  match step s with
  | .next t => some (look t)
  | _ => none

/-- How one Step stops, if it does. -/
def stops (s : State) : Option (Fault ⊕ Refusal) :=
  match step s with
  | .next _ => none
  | .fault f => some (.inl f)
  | .refused r => some (.inr r)

/-- TA10: (zp,X) pointer at 0xFF, ZP_PTR_WRAP = linear: high byte from 0x0100 (R108). -/
theorem test_lda_indexedindirect :
    after { (withBytes (start 0x8000 [0xA1, 0xFE]) [(0x0000, 0x02), (0x0100, 0x03), (0x0200, 0x22), (0x0300, 0x11)]) with x := 0x01 }
      (fun t => (t.ac, t.status)) =
    some (0x11, 0x00) := by decide

/-- TA15: same, page0 (R110). -/
theorem test_lda_indirectindexed :
    after { (withBytes (start 0x8000 [0xB1, 0xFF]) [(0x0000, 0x03), (0x00FF, 0x10), (0x0100, 0x02), (0x0210, 0x01), (0x0310, 0x02)]) with config := ⟨.page0, true⟩ }
      (fun t => (t.ac, t.status)) =
    some (0x02, 0x00) := by decide

/-- TA4: ZeroPageY wraps: 0x80+0x90 = 0x10 (R104). -/
theorem test_ldx_zeropagey :
    after { (withBytes (start 0x8000 [0xB6, 0x80]) [(0x0110, 0x99)]) with y := 0x90 }
      (fun t => t.status) =
    some 0x02 := by decide

/-- TL6: LDX abs,Y (R131). -/
theorem test_ldx_absolutey :
    after { (withBytes (start 0x8000 [0xBE, 0x00, 0x02]) [(0x0201, 0xFF)]) with y := 0x01 }
      (fun t => (t.x, t.status)) =
    some (0xFF, 0x80) := by decide

/-- TL7: LDY #$80 (R132). -/
theorem test_ldy_immediate :
    after (start 0x8000 [0xA0, 0x80])
      (fun t => (t.y, t.status)) =
    some (0x80, 0x80) := by decide

/-- TL8: LDY zp,X wraps (R132). -/
theorem test_ldy_zeropagex :
    after { (start 0x8000 [0xB4, 0xF0]) with x := 0x20 }
      (fun t => t.status) =
    some 0x02 := by decide

/-- TL10: STA $7FFF: last RAM byte is written (R133). -/
theorem test_sta_absolute :
    after { (start 0x8000 [0x8D, 0xFF, 0x7F]) with ac := 0x5A }
      (fun t => (t.status, memRead 0x7FFF t)) =
    some (0x00, 0x5A) := by decide

/-- TL13: STA abs,X into ROM at 0x8000: dropped (R133). -/
theorem test_sta_absolutex :
    after { (start 0x8000 [0x9D, 0xFF, 0x7F]) with ac := 0x11, x := 0x01 }
      (fun t => (t.status, memRead 0x8000 t)) =
    some (0x00, 0x9D) := by decide

/-- TL15: STX zp,Y wraps to 0x0001 (R134). -/
theorem test_stx_zeropagey :
    after { (start 0x8000 [0x96, 0xFF]) with x := 0xAB, y := 0x02 }
      (fun t => (t.status, memRead 0x0001 t)) =
    some (0x00, 0xAB) := by decide

/-- TL16: STX to ROM dropped (R134). -/
theorem test_stx_absolute :
    after { (start 0x8000 [0x8E, 0x00, 0xC0]) with x := 0xAB }
      (fun t => (t.status, memRead 0xC000 t)) =
    some (0x00, 0x00) := by decide

/-- TL17: STY zp,X wraps to 0x0001 (R135). -/
theorem test_sty_zeropagex :
    after { (start 0x8000 [0x94, 0x80]) with y := 0xCD, x := 0x81 }
      (fun t => (t.status, memRead 0x0001 t)) =
    some (0x00, 0xCD) := by decide

/-- TL18: STY: flags unchanged (R135). -/
theorem test_sty_absolute :
    after { (withBytes (start 0x8000 [0x8C, 0x00, 0x02]) [(0x0200, 0x66)]) with status := 0x02 }
      (fun t => (t.status, memRead 0x0200 t)) =
    some (0x02, 0x00) := by decide

/-- TL20: TAX negative (R136). -/
theorem test_tax :
    after { (start 0x8000 [0xAA]) with ac := 0x80 }
      (fun t => (t.x, t.status)) =
    some (0x80, 0x80) := by decide

/-- TL21: TXA (R137). -/
theorem test_txa :
    after { (start 0x8000 [0x8A]) with x := 0xFF, ac := 0x01 }
      (fun t => (t.ac, t.status)) =
    some (0xFF, 0x80) := by decide

/-- TL22: TAY clears N (R138). -/
theorem test_tay :
    after { (start 0x8000 [0xA8]) with ac := 0x01, y := 0x80, status := 0x80 }
      (fun t => (t.y, t.status)) =
    some (0x01, 0x00) := by decide

/-- TL23: TYA zero (R139). -/
theorem test_tya :
    after { (start 0x8000 [0x98]) with ac := 0x10 }
      (fun t => (t.ac, t.status)) =
    some (0x00, 0x02) := by decide

/-- TL24: TXS: SP=0x00, Z not set (R140). -/
theorem test_txs :
    after (start 0x8000 [0x9A])
      (fun t => (t.sp, t.status)) =
    some (0x00, 0x00) := by decide

/-- TL27: TSX negative (R141). -/
theorem test_tsx :
    after { (start 0x8000 [0xBA]) with sp := 0xFD }
      (fun t => (t.x, t.status)) =
    some (0xFD, 0x80) := by decide

/-- TR1: §8 ADC example (R150). -/
theorem test_adc_immediate :
    after { (start 0x8000 [0x69, 0x7F]) with ac := 0x01 }
      (fun t => (t.ac, t.status)) =
    some (0x80, 0xC0) := by decide

/-- TR7: D=1: still binary (0x0A, not 0x10) (R150). -/
theorem test_adc_immediate_2 :
    after { (start 0x8000 [0x69, 0x01]) with ac := 0x09, status := 0x08 }
      (fun t => (t.ac, t.status)) =
    some (0x0A, 0x08) := by decide

/-- TR12: positive - negative = negative: V=1, C=0 (R151). -/
theorem test_sbc_immediate :
    after { (start 0x8000 [0xE9, 0xFF]) with ac := 0x7F, status := 0x01 }
      (fun t => (t.ac, t.status)) =
    some (0x80, 0xC0) := by decide

/-- TR13: C=0 subtracts one more: 5-5-1 = 0xFF (R151). -/
theorem test_sbc_immediate_2 :
    after { (start 0x8000 [0xE9, 0x05]) with ac := 0x05 }
      (fun t => (t.ac, t.status)) =
    some (0xFF, 0x80) := by decide

/-- TR18: INC on ROM: memory unchanged, flags from 0x80 (R152). -/
theorem test_inc_absolute :
    after { (withBytes (start 0x8000 [0xEE, 0x00, 0x90]) [(0x9000, 0x7F)]) with status := 0x01 }
      (fun t => (t.status, memRead 0x9000 t)) =
    some (0x81, 0x7F) := by decide

/-- TR19: INC abs,X (R152). -/
theorem test_inc_absolutex :
    after { (withBytes (start 0x8000 [0xFE, 0xFF, 0x01]) [(0x0200, 0x7F)]) with x := 0x01 }
      (fun t => (t.status, memRead 0x0200 t)) =
    some (0x80, 0x80) := by decide

/-- TR20: DEC wraps to 0xFF (R153). -/
theorem test_dec_zeropage :
    after (start 0x8000 [0xC6, 0x10])
      (fun t => (t.status, memRead 0x0010 t)) =
    some (0x80, 0xFF) := by decide

/-- TR21: DEC zp,X to zero (R153). -/
theorem test_dec_zeropagex :
    after { (withBytes (start 0x8000 [0xD6, 0xFF]) [(0x0001, 0x01)]) with x := 0x02 }
      (fun t => (t.status, memRead 0x0001 t)) =
    some (0x02, 0x00) := by decide

/-- TR22: INX wraps, C untouched (R154). -/
theorem test_inx :
    after { (start 0x8000 [0xE8]) with x := 0xFF, status := 0x01 }
      (fun t => (t.x, t.status)) =
    some (0x00, 0x03) := by decide

/-- TR24: DEX wraps to 0xFF (R155). -/
theorem test_dex :
    after (start 0x8000 [0xCA])
      (fun t => (t.x, t.status)) =
    some (0xFF, 0x80) := by decide

/-- TR26: INY wraps (R156). -/
theorem test_iny :
    after { (start 0x8000 [0xC8]) with y := 0xFF }
      (fun t => (t.y, t.status)) =
    some (0x00, 0x02) := by decide

/-- TR27: DEY wraps (R157). -/
theorem test_dey :
    after (start 0x8000 [0x88])
      (fun t => (t.y, t.status)) =
    some (0xFF, 0x80) := by decide

/-- TS2: ASL: old C discarded (R171). -/
theorem test_asl_accumulator :
    after { (start 0x8000 [0x0A]) with ac := 0x40, status := 0x01 }
      (fun t => (t.ac, t.status)) =
    some (0x80, 0x80) := by decide

/-- TS3: ASL on ROM: memory unchanged, C=1 from 0x81 (R171). -/
theorem test_asl_absolute :
    after (withBytes (start 0x8000 [0x0E, 0x00, 0x90]) [(0x9000, 0x81)])
      (fun t => (t.status, memRead 0x9000 t)) =
    some (0x01, 0x81) := by decide

/-- TS5: LSR memory: N=0 always (R172). -/
theorem test_lsr_zeropage :
    after (withBytes (start 0x8000 [0x46, 0x20]) [(0x0020, 0xFF)])
      (fun t => (t.status, memRead 0x0020 t)) =
    some (0x01, 0x7F) := by decide

/-- TS6: LSR abs,X (R172). -/
theorem test_lsr_absolutex :
    after { (withBytes (start 0x8000 [0x5E, 0xFF, 0x01]) [(0x0200, 0x02)]) with x := 0x01 }
      (fun t => (t.status, memRead 0x0200 t)) =
    some (0x00, 0x01) := by decide

/-- TS8: ROL: old C into bit 0 (R173). -/
theorem test_rol_accumulator :
    after { (start 0x8000 [0x2A]) with ac := 0x80, status := 0x01 }
      (fun t => (t.ac, t.status)) =
    some (0x01, 0x01) := by decide

/-- TS9: ROL memory with C=1 (R173). -/
theorem test_rol_zeropage :
    after { (withBytes (start 0x8000 [0x26, 0x30]) [(0x0030, 0x40)]) with status := 0x01 }
      (fun t => (t.status, memRead 0x0030 t)) =
    some (0x80, 0x81) := by decide

/-- TS11: ROR: old C into bit 7 (R174). -/
theorem test_ror_accumulator :
    after { (start 0x8000 [0x6A]) with ac := 0x01, status := 0x01 }
      (fun t => (t.ac, t.status)) =
    some (0x80, 0x81) := by decide

/-- TS12: ROR zp,X (R174). -/
theorem test_ror_zeropagex :
    after { (withBytes (start 0x8000 [0x76, 0x10]) [(0x0011, 0x03)]) with x := 0x01 }
      (fun t => (t.status, memRead 0x0011 t)) =
    some (0x01, 0x01) := by decide

/-- TS14: AND (zp),Y (R175). -/
theorem test_and_indirectindexed :
    after { (withBytes (start 0x8000 [0x31, 0x10]) [(0x0011, 0x02), (0x0201, 0x80)]) with ac := 0xFF, y := 0x01 }
      (fun t => (t.ac, t.status)) =
    some (0x80, 0x80) := by decide

/-- TS13: AND zero; C and V untouched (R175). -/
theorem test_and_immediate :
    after { (start 0x8000 [0x29, 0x0F]) with ac := 0xF0, status := 0xC1 }
      (fun t => (t.ac, t.status)) =
    some (0x00, 0x43) := by decide

/-- TS16: ORA (zp,X) (R176). -/
theorem test_ora_indexedindirect :
    after { (withBytes (start 0x8000 [0x01, 0x10]) [(0x0013, 0x03), (0x0300, 0x80)]) with ac := 0x01, x := 0x02 }
      (fun t => (t.ac, t.status)) =
    some (0x81, 0x80) := by decide

/-- TS17: EOR complement (R177). -/
theorem test_eor_immediate :
    after { (start 0x8000 [0x49, 0xFF]) with ac := 0x5A }
      (fun t => (t.ac, t.status)) =
    some (0xA5, 0x80) := by decide

/-- TS19: BIT: N V from memory, C untouched (R178). -/
theorem test_bit_zeropage :
    after { (withBytes (start 0x8000 [0x24, 0x30]) [(0x0030, 0xC0)]) with status := 0x01 }
      (fun t => t.status) =
    some 0xC3 := by decide

/-- TS20: BIT clears N V, Z=0 (R178). -/
theorem test_bit_absolute :
    after { (withBytes (start 0x8000 [0x2C, 0x00, 0x02]) [(0x0200, 0x01)]) with ac := 0x01, status := 0xC0 }
      (fun t => t.status) =
    some 0x00 := by decide

/-- TS24: CMP greater, N=1 from the difference (R180). -/
theorem test_cmp_immediate :
    after { (start 0x8000 [0xC9, 0x00]) with ac := 0xFF }
      (fun t => t.status) =
    some 0x81 := by decide

/-- TS25: CMP less, N=0 (difference 0x02) (R180). -/
theorem test_cmp_immediate_2 :
    after { (start 0x8000 [0xC9, 0xFF]) with ac := 0x01 }
      (fun t => t.status) =
    some 0x00 := by decide

/-- TS27: CPX less (R181). -/
theorem test_cpx_immediate :
    after { (start 0x8000 [0xE0, 0x0A]) with x := 0x05 }
      (fun t => t.status) =
    some 0x80 := by decide

/-- TS30: CPY zero vs zero (R182). -/
theorem test_cpy_absolute :
    after (start 0x8000 [0xCC, 0x00, 0x02])
      (fun t => t.status) =
    some 0x03 := by decide

/-- TC1: C=0 (R191). -/
theorem test_bcc :
    after (start 0x8000 [0x90, 0x10])
      (fun t => t.pc) =
    some 0x8012 := by decide

/-- TC2: C=1 (R191). -/
theorem test_bcc_2 :
    after { (start 0x8000 [0x90, 0x10]) with status := 0x01 }
      (fun t => t.pc) =
    some 0x8002 := by decide

/-- TC4: C=0 (R192). -/
theorem test_bcs :
    after (start 0x8000 [0xB0, 0x10])
      (fun t => t.pc) =
    some 0x8002 := by decide

/-- TC6: taken, backward 16 (R192). -/
theorem test_bcs_2 :
    after { (start 0x8010 [0xB0, 0xF0]) with status := 0x01 }
      (fun t => t.pc) =
    some 0x8002 := by decide

/-- TC7: Z=0 (R193). -/
theorem test_beq :
    after (start 0x8000 [0xF0, 0x10])
      (fun t => t.pc) =
    some 0x8002 := by decide

/-- TC8: Z=1 (R193). -/
theorem test_beq_2 :
    after { (start 0x8000 [0xF0, 0x10]) with status := 0x02 }
      (fun t => t.pc) =
    some 0x8012 := by decide

/-- TC11: Z=1 (R194). -/
theorem test_bne :
    after { (start 0x8000 [0xD0, 0x10]) with status := 0x02 }
      (fun t => t.pc) =
    some 0x8002 := by decide

/-- TC27: target wraps past 0xFFFF (D1) (R190). -/
theorem test_bne_2 :
    after (start 0xFFF0 [0xD0, 0x7F])
      (fun t => t.pc) =
    some 0x0071 := by decide

/-- TC14: N=1 (R195). -/
theorem test_bpl :
    after { (start 0x8000 [0x10, 0x10]) with status := 0x80 }
      (fun t => t.pc) =
    some 0x8002 := by decide

/-- TC15: taken, backward 16 (R195). -/
theorem test_bpl_2 :
    after (start 0x8010 [0x10, 0xF0])
      (fun t => t.pc) =
    some 0x8002 := by decide

/-- TC16: N=0 (R196). -/
theorem test_bmi :
    after (start 0x8000 [0x30, 0x10])
      (fun t => t.pc) =
    some 0x8002 := by decide

/-- TC18: taken, backward 16 (R196). -/
theorem test_bmi_2 :
    after { (start 0x8010 [0x30, 0xF0]) with status := 0x80 }
      (fun t => t.pc) =
    some 0x8002 := by decide

/-- TC19: V=0 (R197). -/
theorem test_bvc :
    after (start 0x8000 [0x50, 0x10])
      (fun t => t.pc) =
    some 0x8012 := by decide

/-- TC20: V=1 (R197). -/
theorem test_bvc_2 :
    after { (start 0x8000 [0x50, 0x10]) with status := 0x40 }
      (fun t => t.pc) =
    some 0x8002 := by decide

/-- TC22: V=0 (R198). -/
theorem test_bvs :
    after (start 0x8000 [0x70, 0x10])
      (fun t => t.pc) =
    some 0x8002 := by decide

/-- TC23: V=1 (R198). -/
theorem test_bvs_2 :
    after { (start 0x8000 [0x70, 0x10]) with status := 0x40 }
      (fun t => t.pc) =
    some 0x8012 := by decide

/-- TC30: JMP ($30FF): high byte from 0x3100 (D3) (R199). -/
theorem test_jmp_indirect :
    after (withBytes (start 0x8000 [0x6C, 0xFF, 0x30]) [(0x3000, 0x40), (0x30FF, 0x80), (0x3100, 0x50)])
      (fun t => t.pc) =
    some 0x5080 := by decide

/-- TC31: pointer 0xFFFF: high byte from 0x0000 (D1) (R199). -/
theorem test_jmp_indirect_2 :
    after (withBytes (start 0x8000 [0x6C, 0xFF, 0xFF]) [(0x0000, 0x12)])
      (fun t => t.pc) =
    some 0x1200 := by decide

/-- TC33: JSR with SP=0x00: stack wraps (R200). -/
theorem test_jsr_absolute :
    after { (start 0x8000 [0x20, 0x00, 0x90]) with sp := 0x00 }
      (fun t => (t.sp, t.pc, memRead 0x0100 t, memRead 0x01FF t)) =
    some (0xFE, 0x9000, 0x80, 0x02) := by decide

/-- TC36: RTS: 0xFFFF + 1 wraps to 0x0000 (R201). -/
theorem test_rts :
    after { (withBytes (start 0x9000 [0x60]) [(0x01FE, 0xFF), (0x01FF, 0xFF)]) with sp := 0xFD }
      (fun t => (t.sp, t.pc)) =
    some (0xFF, 0x0000) := by decide

/-- TC37: RTS with SP=0xFF: pulls wrap to 0x0100 (R201). -/
theorem test_rts_2 :
    after (withBytes (start 0x9000 [0x60]) [(0x0100, 0x34), (0x0101, 0x12)])
      (fun t => (t.sp, t.pc)) =
    some (0x01, 0x1235) := by decide

/-- TI2: BRK with I=1 still taken; pushed 0xFF (R210). -/
theorem test_brk :
    after { (withBytes (start 0x8000 [0x00]) [(0xFFFF, 0x90)]) with status := 0xCF }
      (fun t => (t.sp, t.pc, memRead 0x01FD t, memRead 0x01FE t, memRead 0x01FF t)) =
    some (0xFC, 0x9000, 0xFF, 0x02, 0x80) := by decide

/-- TI3: BRK stack wrap: writes 0x0101, 0x0100, 0x01FF (R210). -/
theorem test_brk_2 :
    after { (withBytes (start 0x8000 [0x00]) [(0xFFFE, 0x34), (0xFFFF, 0x12)]) with sp := 0x01 }
      (fun t => (t.sp, t.status, t.pc, memRead 0x0100 t, memRead 0x0101 t, memRead 0x01FF t)) =
    some (0xFE, 0x04, 0x1234, 0x02, 0x80, 0x30) := by decide

/-- TI5: RTI: B and bit 5 cleared (0xFF -> 0xCF), PC not + 1 (R211). -/
theorem test_rti :
    after { (withBytes (start 0x9000 [0x40]) [(0x01FD, 0xFF), (0x01FF, 0x10)]) with sp := 0xFC }
      (fun t => (t.sp, t.status, t.pc)) =
    some (0xFF, 0xCF, 0x1000) := by decide

/-- TI6: RTI clears I and B (R211). -/
theorem test_rti_2 :
    after { (withBytes (start 0x9000 [0x40]) [(0x01FF, 0x10)]) with sp := 0xFC, status := 0x34 }
      (fun t => (t.sp, t.status, t.pc)) =
    some (0xFF, 0x00, 0x1000) := by decide

/-- TI8: PHA SP wrap (R213). -/
theorem test_pha :
    after { (start 0x8000 [0x48]) with ac := 0x42, sp := 0x00 }
      (fun t => (t.sp, t.status, memRead 0x0100 t)) =
    some (0xFF, 0x00, 0x42) := by decide

/-- TI10: PHP: Status unchanged (R214). -/
theorem test_php :
    after { (start 0x8000 [0x08]) with status := 0xC3 }
      (fun t => (t.sp, t.status, memRead 0x01FF t)) =
    some (0xFE, 0xC3, 0xF3) := by decide

/-- TI12: PLA, PLA_SETS_ZN = false: flags unchanged (R215). -/
theorem test_pla :
    after { (withBytes (start 0x8000 [0x68]) [(0x01FF, 0x80)]) with sp := 0xFE, status := 0x02, config := ⟨.linear, false⟩ }
      (fun t => (t.ac, t.sp, t.status)) =
    some (0x80, 0xFF, 0x02) := by decide

/-- TI14: PLA SP wrap: reads 0x0100 (R215). -/
theorem test_pla_2 :
    after (withBytes (start 0x8000 [0x68]) [(0x0100, 0x7E)])
      (fun t => (t.ac, t.sp, t.status)) =
    some (0x7E, 0x00, 0x00) := by decide

/-- TI15: PLP: 0xFF gives 0xCF (R216). -/
theorem test_plp :
    after { (withBytes (start 0x8000 [0x28]) [(0x01FF, 0xFF)]) with sp := 0xFE }
      (fun t => (t.sp, t.status)) =
    some (0xFF, 0xCF) := by decide

/-- TI16: PLP keeps B=1 from Status (R216). -/
theorem test_plp_2 :
    after { (start 0x8000 [0x28]) with sp := 0xFE, status := 0x10 }
      (fun t => (t.sp, t.status)) =
    some (0xFF, 0x10) := by decide

/-- TI17 (R217). -/
theorem test_clc :
    after { (start 0x8000 [0x18]) with status := 0x01 }
      (fun t => t.status) =
    some 0x00 := by decide

/-- TI19 (R218). -/
theorem test_sec :
    after (start 0x8000 [0x38])
      (fun t => t.status) =
    some 0x01 := by decide

/-- TI22: other flags kept (R219). -/
theorem test_cli :
    after { (start 0x8000 [0x58]) with status := 0xC9 }
      (fun t => t.status) =
    some 0xC9 := by decide

/-- TI24: other flags kept (R220). -/
theorem test_sei :
    after { (start 0x8000 [0x78]) with status := 0xCD }
      (fun t => t.status) =
    some 0xCD := by decide

/-- TI26: other flags kept (R221). -/
theorem test_cld :
    after { (start 0x8000 [0xD8]) with status := 0xC5 }
      (fun t => t.status) =
    some 0xC5 := by decide

/-- TI27 (R222). -/
theorem test_sed :
    after (start 0x8000 [0xF8])
      (fun t => t.status) =
    some 0x08 := by decide

/-- TI29 (R223). -/
theorem test_clv :
    after { (start 0x8000 [0xB8]) with status := 0x40 }
      (fun t => t.status) =
    some 0x00 := by decide

/-- TI31: NOP (R224). -/
theorem test_nop :
    after { (start 0x8000 [0xEA]) with ac := 0x12, status := 0xC3 }
      (fun t => t.pc) =
    some 0x8001 := by decide

/-- TX1: unassigned byte (R240). -/
theorem test_unassigned_02 : stops { (start 0x8000 [0x02]) with ac := 0x12, sp := 0xFD, status := 0x01 } = some (.inl (.invalidOpcode 0x02 0x8000)) := by decide

/-- TX5: unassigned byte (R240). -/
theorem test_unassigned_eb : stops { (start 0x8000 [0xEB]) with ac := 0x12, sp := 0xFD, status := 0x01 } = some (.inl (.invalidOpcode 0xEB 0x8000)) := by decide

/-! ## The host calls, the fetch and the launch state -/

/-- The state after some host calls, and the last answer. -/
def hostCalls (cs : List HostCall) (s : State) : State × Answer :=
  cs.foldl (fun p c => call c p.1) (s, .ok)

/-- TH1: Reset reads the vector low byte first (R271). -/
theorem test_reset_reads_vector :
    ((hostCalls [.reset] (State.construct Config.vectorDefaults 0xFF [(0xFFFD, 0x80)])).1.pc,
      (hostCalls [.reset] (State.construct Config.vectorDefaults 0xFF [(0xFFFD, 0x80)])).1.resetDone) =
    (0x8000, true) := by decide

/-- TH2: Reset writes only PC (R271, D5). -/
theorem test_reset_keeps_registers :
    (hostCalls [.reset] { State.reset with sp := 0xF0, status := 0xC3, pc := 0x9000, mem := [(0xFFFD, 0x80)] }).1 =
    { State.reset with sp := 0xF0, status := 0xC3, pc := 0x8000, mem := [(0xFFFD, 0x80)] } := by decide

/-- TH3: Step before Reset (R270, D9). -/
theorem test_step_before_reset : stops { start 0x8000 [0xEA] with resetDone := false } = some (.inr .beforeReset) := by decide

/-- A core about to take an NMI whose handler begins with RTI, as in TH4 to TH7. -/
def beforeNmi (p : Byte) : State := { withBytes (start 0x8003 []) [(0xFFFB, 0xA0), (0xA000, 0x40)] with status := p }

/-- TH4: pushed Status unforced (R245). -/
theorem test_nmi_frame :
    let t := (hostCalls [.nmi] (beforeNmi 0x80)).1
    (t.sp, t.status, t.pc, memRead 0x01FF t, memRead 0x01FE t, memRead 0x01FD t) =
      (0xFC, 0x84, 0xA000, 0x80, 0x03, 0x80) := by decide

/-- TH6: NMI ignores I (R245, D11). -/
theorem test_nmi_ignores_i : (hostCalls [.nmi] (beforeNmi 0x84)).1.pc = 0xA000 := by decide

/-- TH7, from P=90: NMI then RTI restores all but B, which is 0 (R253). -/
theorem test_nmi_then_rti :
    let t := (hostCalls [.nmi, .step] (beforeNmi 0x90)).1
    (t.sp, t.status, t.pc) = (0xFF, 0x80, 0x8003) := by decide

/-- TX1, TH8: the fault is recorded and sticky, and a Reset does not clear it (R241, D8, R271). -/
theorem test_fault_is_sticky :
    (hostCalls [.step, .nmi, .reset, .step] (start 0x8000 [0x02])).2 = .refused (.faulted (.invalidOpcode 0x02 0x8000)) := by
  decide

/-- TH9: accessors write one bit (R244). -/
theorem test_set_flags_then_get :
    (hostCalls [.setFlag 'C' true, .setFlag 'D' true] State.reset).1.status = 0x09 ∧
    (hostCalls [.setFlag 'C' true, .setFlag 'D' true, .getFlag 'D'] State.reset).2 = .flag true := by decide

/-- TH10: case-sensitive (R243, D23). -/
theorem test_unknown_flag :
    hostCalls [.getFlag 'c'] State.reset = (State.reset, .error (.invalidFlag 'c')) ∧
    hostCalls [.setFlag 'X' true] State.reset = (State.reset, .error (.invalidFlag 'X')) := by decide

/-- R57: the loader writes ROM before the first Reset and the display reads RAM (R51). -/
theorem test_load_then_read :
    (hostCalls [.load 0x9000 0x42, .read 0x9000] (State.construct Config.vectorDefaults 0xFF [])).2 = .byte 0x42 := by decide

/-- A word of three bytes at PC past the guard, and bits above `nbits` zero (entry 21). -/
theorem test_with_fetch_word :
    after (State.reset.withFetchWord 24 0x1234A9) (fun t => t.pc) = some 0x0002 ∧
    after (State.reset.withFetchWord 8 0x12348D) (fun t => memRead 0x0000 t) = some 0x00 ∧
    after ({ State.reset with pc := 0xFFFF }.withFetchWord 24 0x90004C) (fun t => t.pc) = some 0x9000 := by decide

/-- R272: the reset state is the launch state for the named parameters. -/
theorem test_launch_state : State.launch Config.vectorDefaults Config.spInit [] = State.reset := by decide

/-! ## For each statement with hypotheses, inputs that meet them: one for each clause, at the ends of its range -/

theorem witness_EncodeOfDecodeIsIdentity : decode [0xA9, 0x7F, 0xEA] = .ok (.ldaImmediate 0x7F, [0xEA]) := rfl

theorem witness_InvalidBytesAreTheListed105 :
    (0x02 : Byte) ∈ unassignedBytes ∧ (0xFF : Byte) ∈ unassignedBytes ∧
    (0x00 : Byte) ∉ unassignedBytes ∧ (0xFE : Byte) ∉ unassignedBytes := by decide

theorem witness_LengthFollowsFromModeAndOpcode :
    decode (0x8D :: [0x00, 0x02]) = .ok (.staAbsolute 0x0200, []) ∧
    decode (0x8D :: [0xFF, 0xFF, 0xEA]) = .ok (.staAbsolute 0xFFFF, [0xEA]) := ⟨rfl, rfl⟩

theorem witness_OperandsFitTheirInstructions :
    (Mode.indirect, (0x6C : Byte)) ∈ (acceptedModes .jmp).zip (ruleOpcodes .jmp) ∧
    (Instr.jsr 0x9000).mnemonic ∈
      [.sta, .stx, .sty, .jmp, .jsr, .bcc, .bcs, .beq, .bne, .bpl, .bmi, .bvc, .bvs, .inc, .dec] ∧
    ((Instr.rorZeroPage 0x10).mnemonic ∈ shiftMnemonics ∧ (Instr.rorZeroPage 0x10).mode ≠ .accumulator) := by decide

/-- A running core with STA $0200 at the top of memory, so that the fetch wraps. -/
def running : State := { start 0xFFFE [0x8D, 0x00, 0x02] with ac := 0x5A }

/-- A running core whose byte at PC has no table entry. -/
def stuck : State := start 0x8000 [0x02]

theorem running_ready : running.Ready := ⟨by decide, by decide⟩

theorem stuck_ready : stuck.Ready := ⟨by decide, by decide⟩

theorem witness_StepRunsTheDecodedInstruction :
    running.Ready ∧
    decode [memRead running.pc running, memRead (running.pc + 1) running, memRead (running.pc + 2) running] =
      .ok (.staAbsolute 0x0200, []) := ⟨running_ready, by rfl⟩

theorem witness_InvalidOpcodeIsPrecise :
    (stuck.Ready ∧ lookupOpcode (memRead stuck.pc stuck) = none) ∧ step stuck = .fault (.invalidOpcode 0x02 0x8000) :=
  ⟨⟨stuck_ready, by rfl⟩, by rfl⟩

theorem witness_RecordedErrorIsSticky :
    (call .step stuck).1.fault = some (.invalidOpcode 0x02 0x8000) ∧ (call .step stuck).1.resetDone = true := by decide

theorem witness_NothingRunsBeforeReset : (State.construct Config.vectorDefaults 0xFF []).resetDone = false := by decide

theorem witness_OnlyInvalidOpcodeStopsAStep : running.Ready ∧ stuck.Ready := ⟨running_ready, stuck_ready⟩

theorem witness_WriteGuardDropsRomWrites :
    0x8000 ≤ (0x8000 : Word).toNat ∧ 0x8000 ≤ (0xFFFF : Word).toNat ∧ (0x7FFF : Word).toNat < 0x8000 ∧
    (0x0000 : Word).toNat < 0x8000 := by decide

theorem witness_OnlyStoringInstructionsWriteMemory :
    (Instr.ldaImmediate 0x01).mnemonic ∉ storeMnemonics ∧ (Instr.ldaImmediate 0x01).mnemonic ∉ shiftMnemonics ∧
    (∃ t, exec (.ldaImmediate 0x01) running = .next t) ∧
    Instr.aslAccumulator.mnemonic ∉ storeMnemonics ∧ Instr.aslAccumulator.mode = .accumulator ∧
    (∃ t, exec .aslAccumulator running = .next t) := ⟨by decide, by decide, ⟨_, rfl⟩, by decide, by decide, ⟨_, rfl⟩⟩

theorem witness_RomNeverChangesAfterReset :
    running.resetDone = true ∧ 0x8000 ≤ (0x8000 : Word).toNat ∧ 0x8000 ≤ (0xFFFF : Word).toNat := by decide

theorem witness_StepKeepsTheInvariant : running.Inv ∧ ∃ t, step running = .next t :=
  ⟨⟨by decide, by decide, fun f h => by
    rw [show running.fault = none by decide] at h; cases h⟩, ⟨_, rfl⟩⟩

theorem witness_ReachableStatesMeetTheInvariant :
    Reachable (call .step (call .reset (State.construct Config.vectorDefaults 0xFF [(0xFFFD, 0x80)])).1).1 :=
  .call .step (.call .reset (.construct _ _ _ (by decide)))

theorem witness_ByteOperandsResolve :
    decode (fetchBytes (start 0x8000 [0xA9, 0xFF])) = .ok (.ldaImmediate 0xFF, [0x00]) ∧
    decode (fetchBytes (start 0x8000 [0xA5, 0xFF])) = .ok (.ldaZeroPage 0xFF, [0x00]) ∧
    decode (fetchBytes (start 0x8000 [0xB5, 0xFF])) = .ok (.ldaZeroPageX 0xFF, [0x00]) ∧
    decode (fetchBytes (start 0x8000 [0xB6, 0xFF])) = .ok (.ldxZeroPageY 0xFF, [0x00]) ∧
    decode (fetchBytes (start 0x8000 [0x0A])) = .ok (.aslAccumulator, [0x00, 0x00]) ∧
    decode (fetchBytes (start 0x8000 [0xEA])) = .ok (.nop, [0x00, 0x00]) := ⟨rfl, rfl, rfl, rfl, rfl, rfl⟩

theorem witness_WordOperandsResolve :
    decode (fetchBytes (start 0x8000 [0xAD, 0xFF, 0xFF])) = .ok (.ldaAbsolute 0xFFFF, []) ∧
    decode (fetchBytes (start 0x8000 [0xBD, 0xFF, 0xFF])) = .ok (.ldaAbsoluteX 0xFFFF, []) ∧
    decode (fetchBytes (start 0x8000 [0xB9, 0xFF, 0xFF])) = .ok (.ldaAbsoluteY 0xFFFF, []) ∧
    decode (fetchBytes (start 0x0000 [0xD0, 0x80])) = .ok (.bne 0x80, [0x00]) := ⟨rfl, rfl, rfl, rfl⟩

theorem witness_PointerOperandsResolve :
    decode (fetchBytes (start 0x8000 [0x6C, 0xFF, 0xFF])) = .ok (.jmpIndirect 0xFFFF, []) ∧
    decode (fetchBytes (start 0x8000 [0xA1, 0xFF])) = .ok (.ldaIndexedIndirect 0xFF, [0x00]) ∧
    decode (fetchBytes (start 0x8000 [0xB1, 0xFF])) = .ok (.ldaIndirectIndexed 0xFF, [0x00]) := ⟨rfl, rfl, rfl⟩

theorem witness_OperandByteFollowsTheMode :
    (Instr.ldaImmediate 0xFF).operand = .immediate 0xFF ∧ Instr.rolAccumulator.mode = .accumulator ∧
    (Instr.ldaZeroPage 0xFF).mode ≠ .immediate ∧ (Instr.ldaZeroPage 0xFF).mode ≠ .accumulator := by decide

theorem witness_SequentialInstructionsAdvancePC : (Instr.staAbsolute 0x8000).mnemonic ∉ controlMnemonics := by decide

theorem witness_OnlyListedInstructionsWriteARegister :
    (Instr.staAbsolute 0x0200).mnemonic ∉ registerWriters .ac ∧ ∃ t, exec (.staAbsolute 0x0200) running = .next t :=
  ⟨by decide, _, rfl⟩

theorem witness_OnlyListedInstructionsWriteAFlag :
    Instr.brk.mnemonic ∉ flagWriters .b ∧ ∃ t, exec .brk running = .next t := ⟨by decide, _, rfl⟩

theorem witness_NoInstructionSetsBOrBitFive :
    (∃ t, exec .rti running = .next t) ∧ ∃ t, exec .plp running = .next t := ⟨⟨_, rfl⟩, _, rfl⟩

theorem witness_DecimalAndInterruptFlagsGateNothing :
    Flag.d ∈ [Flag.d, .i] ∧ (Instr.adcImmediate 0x01).mnemonic ∉ [.php, .brk] ∧
    (∃ t, exec (.adcImmediate 0x01) running = .next t) ∧
    ∃ u, exec (.adcImmediate 0x01) (running.setFlag .d true) = .next u := ⟨by decide, by decide, ⟨_, rfl⟩, _, rfl⟩

theorem witness_LoadsCopyTheOperand :
    ((Instr.ldaIndirectIndexed 0xFF).mnemonic, Reg.ac) ∈ [(Mnemonic.lda, Reg.ac), (.ldx, .x), (.ldy, .y)] ∧
    ((Instr.ldxImmediate 0x00).mnemonic, Reg.x) ∈ [(Mnemonic.lda, Reg.ac), (.ldx, .x), (.ldy, .y)] ∧
    ((Instr.ldyAbsolute 0xFFFF).mnemonic, Reg.y) ∈ [(Mnemonic.lda, Reg.ac), (.ldx, .x), (.ldy, .y)] := by decide

theorem witness_StoresWriteTheRegister :
    ((Instr.staAbsolute 0x7FFF).mnemonic, Reg.ac) ∈ [(Mnemonic.sta, Reg.ac), (.stx, .x), (.sty, .y)] ∧
    ((Instr.stxAbsolute 0x8000).mnemonic, Reg.x) ∈ [(Mnemonic.sta, Reg.ac), (.stx, .x), (.sty, .y)] ∧
    ((Instr.styZeroPage 0x00).mnemonic, Reg.y) ∈ [(Mnemonic.sta, Reg.ac), (.stx, .x), (.sty, .y)] ∧
    (addressOf (.staAbsolute 0x7FFF) running).toNat < 0x8000 ∧
    ¬ (addressOf (.stxAbsolute 0x8000) running).toNat < 0x8000 := by decide

/-- The list of transfers of the statement. -/
def transferList : List (Instr × Reg × Reg) :=
  [(.tax, .ac, .x), (.txa, .x, .ac), (.tay, .ac, .y), (.tya, .y, .ac), (.tsx, .sp, .x), (.txs, .x, .sp)]

theorem witness_TransfersCopyARegister :
    (Instr.tax, Reg.ac, Reg.x) ∈ transferList ∧ Instr.tax ≠ .txs ∧ (Instr.txs, Reg.x, Reg.sp) ∈ transferList := by decide

theorem witness_AdcAddsWithCarry : (Instr.adcImmediate 0xFF).mnemonic = .adc := by decide

theorem witness_SbcSubtractsWithBorrow : (Instr.sbcImmediate 0xFF).mnemonic = .sbc := by decide

theorem witness_OverflowIsSignedRange :
    (∃ t, exec (.adcImmediate 0x7F) running = .next t) ∧ (Instr.adcImmediate 0x7F).mnemonic = .adc ∧
    (∃ t, exec (.sbcImmediate 0x80) running = .next t) ∧ (Instr.sbcImmediate 0x80).mnemonic = .sbc :=
  ⟨⟨_, rfl⟩, by decide, ⟨_, rfl⟩, by decide⟩

theorem witness_IncrementsAndDecrementsOfMemory :
    ((Instr.incAbsolute 0x7FFF).mnemonic, 1) ∈ [(Mnemonic.inc, 1), (.dec, 255)] ∧
    ((Instr.decAbsolute 0x8000).mnemonic, 255) ∈ [(Mnemonic.inc, 1), (.dec, 255)] := by decide

theorem witness_IndexRegistersCountModulo256 :
    (Instr.inx, Reg.x, 1) ∈ [(Instr.inx, Reg.x, 1), (.dex, .x, 255), (.iny, .y, 1), (.dey, .y, 255)] ∧
    (Instr.dey, Reg.y, 255) ∈ [(Instr.inx, Reg.x, 1), (.dex, .x, 255), (.iny, .y, 1), (.dey, .y, 255)] := by decide

/-- ROL and ROR in the core of `running`, where AC is 0x5A and C is 0: on AC, and on the zero byte at 0x0010. -/
theorem witness_ShiftsAndRotatesMoveOneBit :
    (running.ac.toNat = 0x5A ∧ running.flag .c = false) ∧
    (Instr.rolAccumulator, 0xB4, false) ∈ [(Instr.aslAccumulator, 2 * 0x5A % 256, decide (128 ≤ 0x5A)),
      (.lsrAccumulator, 0x5A / 2, decide (0x5A % 2 = 1)), (.rolAccumulator, (2 * 0x5A + 0) % 256, decide (128 ≤ 0x5A)),
      (.rorAccumulator, 0x5A / 2 + 128 * 0, decide (0x5A % 2 = 1))] ∧
    (Instr.rorZeroPage 0x10).mode ≠ .accumulator ∧ (memRead (addressOf (.rorZeroPage 0x10) running) running).toNat = 0 ∧
    ((Instr.rorZeroPage 0x10).mnemonic, 0, false) ∈ [(Mnemonic.asl, 2 * 0 % 256, decide (128 ≤ 0)),
      (.lsr, 0 / 2, decide (0 % 2 = 1)), (.rol, (2 * 0 + 0) % 256, decide (128 ≤ 0)),
      (.ror, 0 / 2 + 128 * 0, decide (0 % 2 = 1))] := by decide

theorem witness_LogicCombinesBitwiseWithAC :
    (Instr.andImmediate 0x0F).mnemonic = .and ∧ (Instr.oraZeroPage 0xFF).mnemonic = .ora ∧
    (Instr.eorIndexedIndirect 0xFF).mnemonic = .eor := by decide

theorem witness_BitTestsWithoutChangingAC : (Instr.bitAbsolute 0xFFFF).mnemonic = .bit := by decide

theorem witness_ComparesSetCarryZeroNegative :
    ((Instr.cmpImmediate 0xFF).mnemonic, Reg.ac) ∈ [(Mnemonic.cmp, Reg.ac), (.cpx, .x), (.cpy, .y)] ∧
    ((Instr.cpxZeroPage 0x00).mnemonic, Reg.x) ∈ [(Mnemonic.cmp, Reg.ac), (.cpx, .x), (.cpy, .y)] ∧
    ((Instr.cpyAbsolute 0xFFFF).mnemonic, Reg.y) ∈ [(Mnemonic.cmp, Reg.ac), (.cpx, .x), (.cpy, .y)] := by decide

/-- The list of branches of the statement, for one offset. -/
def branchList (off : Byte) : List (Instr × Flag × Bool) :=
  [(.bcc off, .c, false), (.bcs off, .c, true), (.beq off, .z, true), (.bne off, .z, false),
    (.bpl off, .n, false), (.bmi off, .n, true), (.bvc off, .v, false), (.bvs off, .v, true)]

/-- Taken and not taken, at both ends of the offset's range. -/
theorem witness_BranchesTestOneFlag :
    (Instr.bcc 0x80, Flag.c, false) ∈ branchList 0x80 ∧ running.flag .c = false ∧
    (Instr.bvs 0x7F, Flag.v, true) ∈ branchList 0x7F ∧ running.flag .v ≠ true := by decide

theorem witness_JumpGoesToItsTarget :
    (Instr.jmpAbsolute 0xFFFF).mnemonic = .jmp ∧ (Instr.jmpAbsolute 0xFFFF).operand = .absolute 0xFFFF ∧
    (Instr.jmpIndirect 0xFFFF).mnemonic = .jmp ∧ (Instr.jmpIndirect 0xFFFF).operand = .indirect 0xFFFF := by decide

/-- The state an instruction leaves; every instruction leaves one. -/
def result (i : Instr) (s : State) : State :=
  match exec i s with
  | .next t => t
  | _ => s

theorem witness_CallThenReturnComesBack :
    let s := { running with sp := 0x00 }
    let t := result (.jsr 0x9000) s
    let body := { t with ac := 0x00, pc := 0x9000 }
    exec (.jsr 0x9000) s = .next t ∧ body.sp = t.sp ∧
    memRead (stackAddr s.sp) body = memRead (stackAddr s.sp) t ∧
    memRead (stackAddr (s.sp - 1)) body = memRead (stackAddr (s.sp - 1)) t := ⟨rfl, rfl, rfl, rfl⟩

theorem witness_NmiEntersThroughItsVector : running.Ready := running_ready

theorem witness_BreakThenReturnRestores :
    let s := { running with sp := 0x01 }
    let t := result .brk s
    let handler := { t with ac := 0x00, pc := 0x9000 }
    exec .brk s = .next t ∧ handler.sp = t.sp ∧
    ∀ k, k ∈ [0, 1, 2] → memRead (stackAddr (s.sp - k)) handler = memRead (stackAddr (s.sp - k)) t :=
  ⟨rfl, rfl, fun _ _ => rfl⟩

theorem witness_NmiThenReturnRestores : running.Ready ∧ ∃ t, nmi running = .next t := ⟨running_ready, _, rfl⟩

theorem witness_PushInstructionsWriteTheirByte :
    (Instr.pha, running.ac) ∈ [(Instr.pha, running.ac), (.php, running.status ||| 0x30)] ∧
    (Instr.php, running.status ||| 0x30) ∈ [(Instr.pha, running.ac), (.php, running.status ||| 0x30)] := by decide

theorem witness_PlaPullsAC :
    running.config.plaSetsZN = true ∧ { running with config := ⟨.page0, false⟩ }.config.plaSetsZN = false := by decide

theorem witness_PhpThenPlpRestoresStatus :
    let t := result .php running
    let later := { t with status := 0x00 }
    exec .php running = .next t ∧ later.sp = t.sp ∧ later.status &&& 0x30 = running.status &&& 0x30 ∧
    memRead (stackAddr running.sp) later = memRead (stackAddr running.sp) t := ⟨rfl, rfl, by decide, rfl⟩

/-- The list of flag instructions of the statement. -/
def flagList : List (Instr × Flag × Bool) :=
  [(.clc, .c, false), (.sec, .c, true), (.cli, .i, false), (.sei, .i, true), (.cld, .d, false), (.sed, .d, true),
    (.clv, .v, false)]

theorem witness_FlagInstructionsWriteOneFlag :
    (Instr.clc, Flag.c, false) ∈ flagList ∧ (Instr.sed, Flag.d, true) ∈ flagList ∧ (Instr.clv, Flag.v, false) ∈ flagList := by
  decide

theorem witness_FlagAccessorsReachSevenBits :
    let names : List (Char × Nat) := [('N', 7), ('V', 6), ('B', 4), ('D', 3), ('I', 2), ('Z', 1), ('C', 0)]
    ('N', 7) ∈ names ∧ ('C', 0) ∈ names ∧ ∀ p ∈ names, p.1 ≠ 'n' := by decide

theorem witness_LoaderFillsRomBeforeReset :
    (State.construct Config.vectorDefaults 0xFF []).resetDone = false ∧ 0x8000 ≤ (0x8000 : Word).toNat ∧
    0x8000 ≤ (0xFFFF : Word).toNat ∧ running.resetDone = true ∧ (0x7FFF : Word).toNat < 0x8000 := by decide


end Sys2Proof.Tests
end

section
/-! SUPPORT. What every instruction leaves unchanged: the registers and flags it is not listed under (R20, R26, R30 to R36),
bit 5 of Status (R25), and the canonical form of memory. -/

namespace Sys2Proof.Machine

/-! ## Status after an instruction, said once -/

/-- Status after each mnemonic's handler, as a function of the state before it (R30 to R36). -/
def statusAfter (m : Mnemonic) (o : Operand) (s : State) : Byte :=
  let v := operandByte (resolve o s) s
  match m with
  | .lda | .ldx | .ldy => putZN v s.status
  | .tax | .tay => putZN s.ac s.status
  | .txa => putZN s.x s.status
  | .tya => putZN s.y s.status
  | .tsx => putZN s.sp s.status
  | .adc => adcStatus s.ac v s.status
  | .sbc => sbcStatus s.ac v s.status
  | .inc => putZN (v + 1) s.status
  | .dec => putZN (v - 1) s.status
  | .inx => putZN (s.x + 1) s.status
  | .dex => putZN (s.x - 1) s.status
  | .iny => putZN (s.y + 1) s.status
  | .dey => putZN (s.y - 1) s.status
  | .asl => shiftStatus (negative v) (aslResult v) s.status
  | .lsr => shiftStatus (v.getLsbD 0) (lsrResult v) s.status
  | .rol => shiftStatus (negative v) (rolResult v (s.flag .c)) s.status
  | .ror => shiftStatus (v.getLsbD 0) (rorResult v (s.flag .c)) s.status
  | .and => putZN (s.ac &&& v) s.status
  | .ora => putZN (s.ac ||| v) s.status
  | .eor => putZN (s.ac ^^^ v) s.status
  | .bit => bitStatus s.ac v s.status
  | .cmp => compareStatus s.ac v s.status
  | .cpx => compareStatus s.x v s.status
  | .cpy => compareStatus s.y v s.status
  | .brk => putFlag .i true s.status
  | .rti => rtiStatus (pullByte s)
  | .pla => if s.config.plaSetsZN then putZN (pullByte s) s.status else s.status
  | .plp => plpStatus (pullByte s) s.status
  | .clc => putFlag .c false s.status
  | .sec => putFlag .c true s.status
  | .cli => putFlag .i false s.status
  | .sei => putFlag .i true s.status
  | .cld => putFlag .d false s.status
  | .sed => putFlag .d true s.status
  | .clv => putFlag .v false s.status
  | .sta | .stx | .sty | .txs | .bcc | .bcs | .beq | .bne | .bpl | .bmi | .bvc | .bvs | .jmp | .jsr | .rts | .pha | .php
    | .nop => s.status

theorem handle_status (m : Mnemonic) (o : Operand) (s : State) : (handle m o s).status = statusAfter m o s := by
  cases m
  case pla => cases h : s.config.plaSetsZN <;> simp [handle, statusAfter, State.setZN_status, h]
  all_goals simp [handle, statusAfter, handleLda, handleLdx, handleLdy, handleSta, handleStx, handleSty, handleAdc,
    handleSbc, handleInc, handleDec, handleAsl, handleLsr, handleRol, handleRor, shiftInto, handleAnd, handleOra,
    handleEor, handleBit, handleCmp, handleCpx, handleCpy, handleJmp, State.setZN_status, State.setFlag_status,
    enterInterrupt_status, returnFromInterrupt_status]

/-- A flag is written only by the mnemonics listed under it. -/
theorem getFlag_statusAfter {m : Mnemonic} {f : Flag} (h : m ∉ flagWriters f) (o : Operand) (s : State) :
    getFlag f (statusAfter m o s) = s.flag f := by
  revert h
  cases f <;> cases m <;> simp [flagWriters, statusAfter, State.flag, getFlag_putFlag, getFlag_putZN, getFlag_adcStatus,
    getFlag_sbcStatus, getFlag_compareStatus, getFlag_bitStatus, getFlag_shiftStatus, getFlag_plpStatus]
  -- PLA is left: whether it writes Z and N is the parameter's choice.
  all_goals split <;> simp [getFlag_putZN]

/-- Bit 5 of Status: cleared by RTI, kept by every other mnemonic. -/
theorem unusedBit_statusAfter (m : Mnemonic) (o : Operand) (s : State) :
    unusedBit (statusAfter m o s) = if m = .rti then false else s.unused := by
  cases m
  case pla => cases h : s.config.plaSetsZN <;> simp [statusAfter, State.unused, h]
  all_goals simp [statusAfter, State.unused, unused_rtiStatus, unused_plpStatus]

theorem handle_flag_kept {m : Mnemonic} {f : Flag} (h : m ∉ flagWriters f) (o : Operand) (s : State) :
    (handle m o s).flag f = s.flag f := by
  rw [State.flag, handle_status, getFlag_statusAfter h]

theorem handle_unused (m : Mnemonic) (o : Operand) (s : State) :
    (handle m o s).unused = if m = .rti then false else s.unused := by
  rw [State.unused, handle_status, unusedBit_statusAfter]

/-! ## Registers -/

theorem writeBack_ac {o : Operand} (h : o.mode ≠ .accumulator) (d : Descriptor) (v : Byte) (s : State) :
    (writeBack o d v s).ac = s.ac := by
  rw [writeBack_memory h, memWrite_ac]

theorem instr_wellFormed (i : Instr) : i.wellFormed = true := by
  cases i <;> rfl

/-- INC and DEC have no Accumulator mode (R152, R153), so their write back never reaches AC. -/
theorem mode_ne_accumulator_of_inc_or_dec {m : Mnemonic} {mode : Mode} (hm : m = .inc ∨ m = .dec)
    (h : accepts m mode = true) : mode ≠ .accumulator := by
  rintro rfl
  rcases hm with rfl | rfl <;> cases h

/-- A register is written only by the mnemonics listed under it, in the modes they accept. -/
theorem handle_reg_kept {m : Mnemonic} {o : Operand} {r : Reg} (h : m ∉ registerWriters r)
    (ho : accepts m o.mode = true) (s : State) : (handle m o s).reg r = s.reg r := by
  have hinc := fun hm => mode_ne_accumulator_of_inc_or_dec (m := m) hm ho
  revert h
  cases r <;> cases m <;> simp [registerWriters, State.reg, handle, handleLda, handleLdx, handleLdy, handleSta, handleStx,
    handleSty, handleAdc, handleSbc, handleInc, handleDec, handleAsl, handleLsr, handleRol, handleRor, shiftInto,
    handleAnd, handleOra, handleEor, handleBit, handleCmp, handleCpx, handleCpy, handleJmp, writeBack_ac, hinc]
  -- PLA is left: with either value of its parameter it writes AC and SP alone.
  all_goals split <;> simp

/-! ## Memory -/

/-- No instruction breaks the canonical form of memory. -/
theorem wf_handle {s : State} (h : Memory.wf s.mem = true) (m : Mnemonic) (o : Operand) :
    Memory.wf (handle m o s).mem = true := by
  cases m
  case pla => cases hp : s.config.plaSetsZN <;> simp [handle, h, hp]
  all_goals simp [handle, handleLda, handleLdx, handleLdy, handleSta, handleStx, handleSty, handleAdc, handleSbc,
    handleInc, handleDec, handleAsl, handleLsr, handleRol, handleRor, shiftInto,
    handleAnd, handleOra, handleEor, handleBit, handleCmp, handleCpx, handleCpy, handleJmp, h, wf_memWrite, wf_writeBack,
    wf_push, wf_pushWord, wf_enterInterrupt]

/-! ## The statements -/

/-- Settles O24: `exec` is the mnemonic's handler, which leaves the register alone. -/
theorem onlyListedInstructionsWriteARegister : Obligations.OnlyListedInstructionsWriteARegister := by
  intro i s t r h ht
  rw [(exec_next_iff i s t).mp ht]
  exact handle_reg_kept h (instr_wellFormed i) s

/-- Settles O25: `exec` is the mnemonic's handler, which leaves the flag alone. -/
theorem onlyListedInstructionsWriteAFlag : Obligations.OnlyListedInstructionsWriteAFlag := by
  intro i s t f h ht
  rw [(exec_next_iff i s t).mp ht]
  exact handle_flag_kept h _ s

/-- Settles O26: RTI clears B in the pulled byte, and no other mnemonic is listed as a writer of B. -/
theorem noInstructionSetsBOrBitFive : Obligations.NoInstructionSetsBOrBitFive := by
  intro i s t ht
  rw [(exec_next_iff i s t).mp ht]
  refine ⟨?_, handle_unused _ _ s⟩
  split
  · next hrti =>
    rw [hrti, State.flag, handle_status, statusAfter, getFlag_rtiStatus, if_pos rfl]
  · next hrti =>
    exact handle_flag_kept (by simpa [flagWriters] using hrti) _ s

end Sys2Proof.Machine
end

section
/-! SUPPORT. Every host call keeps the invariant. -/

namespace Sys2Proof.Machine

/-! ## What a host call that answers a next state did -/

theorem hostLoad_eq_next {s t : State} {a : Word} {v : Byte} (h : hostLoad a v s = .next t) :
    s.resetDone = false ∧ guarded a = true ∧ t = memLoad a v s := by
  unfold hostLoad at h
  split at h
  · cases h
  · next hg =>
    obtain ⟨hr, ha⟩ : s.resetDone = false ∧ guarded a = true := by simpa using hg
    cases h
    exact ⟨hr, ha, rfl⟩

theorem hostSetFlag_eq_next {s t : State} {ch : Char} {b : Bool} (h : hostSetFlag ch b s = .next t) :
    ∃ f, Flag.ofChar ch = some f ∧ t = s.setFlag f b := by
  unfold hostSetFlag at h
  split at h
  · next f hf =>
    cases h
    exact ⟨f, hf, rfl⟩
  · cases h

theorem nmi_eq_next {s t : State} (h : nmi s = .next t) :
    s.Ready ∧ t = enterInterrupt s.pc s.status Config.nmiVector s := by
  unfold nmi at h
  split at h
  · cases h
  · next hready =>
    cases h
    exact ⟨(refuseCall_eq_none_iff s).mp hready, rfl⟩

/-! ## The invariant -/

/-- A canonical memory, a clear bit 5 and no recorded error make the invariant: nothing is recorded that could be
imprecise. -/
theorem State.Inv.of_fault_none {s : State} (hm : Memory.wf s.mem = true) (hu : s.unused = false)
    (hf : s.fault = none) : s.Inv :=
  ⟨hm, hu, fun f h => by rw [hf] at h; cases h⟩

/-- The invariant speaks of memory, bit 5 of Status and the recorded error alone, and a Reset before only helps. -/
theorem State.Inv.congr {s t : State} (h : s.Inv) (hm : t.mem = s.mem) (hu : t.unused = s.unused)
    (hf : t.fault = s.fault) (hr : s.resetDone = true → t.resetDone = true) : t.Inv where
  memory_canonical := hm ▸ h.memory_canonical
  unused_clear := hu.trans h.unused_clear
  fault_precise f hft := by
    obtain ⟨hs, pc, hpc⟩ := h.fault_precise f (hf ▸ hft)
    exact ⟨hr hs, pc, by rwa [memRead_congr hm]⟩

/-- Before the first Reset the invariant rules out a recorded error. -/
theorem State.Inv.fault_none {s : State} (h : s.Inv) (hr : s.resetDone = false) : s.fault = none := by
  cases hf : s.fault with
  | none => rfl
  | some f =>
    have ⟨ht, _⟩ := h.fault_precise f hf
    rw [hr] at ht; cases ht

theorem inv_construct (cfg : Config) (spInit : Byte) {image : Memory} (h : Memory.wf image = true) :
    (State.construct cfg spInit image).Inv :=
  .of_fault_none h (by decide : unusedBit 0x00 = false) rfl

theorem inv_handle {s : State} (h : s.Inv) (hf : s.fault = none) (m : Mnemonic) (o : Operand) : (handle m o s).Inv := by
  have ⟨_, hft, _⟩ := handle_hidden m o s
  refine .of_fault_none (wf_handle h.memory_canonical m o) ?_ (hft.trans hf)
  rw [handle_unused, h.unused_clear]
  split <;> rfl

theorem inv_step {s t : State} (h : s.Inv) (hstep : step s = .next t) : t.Inv := by
  obtain ⟨r, -, hr⟩ | ⟨-, -, hx⟩ | ⟨⟨-, hf⟩, i, -, -, hn⟩ := step_cases s
  · rw [hr] at hstep; cases hstep
  · rw [hx] at hstep; cases hstep
  · rw [hn] at hstep; cases hstep
    exact inv_handle h hf _ _

/-- The error a Step records is precise: the byte still stands at PC and has no table entry (R240, R241). -/
theorem inv_record {s : State} (h : s.Inv) (hr : s.resetDone = true) (hl : lookupOpcode (memRead s.pc s) = none) :
    (s.setFault (some (invalidOpcodeAt s))).Inv where
  memory_canonical := h.memory_canonical
  unused_clear := h.unused_clear
  fault_precise f hf := by
    cases hf
    exact ⟨hr, s.pc, rfl, hl⟩

theorem inv_settleStep {s : State} (h : s.Inv) : (settleStep s (step s)).1.Inv := by
  obtain ⟨r, -, hs⟩ | ⟨⟨hr, -⟩, hl, hs⟩ | ⟨-, i, -, -, hs⟩ := step_cases s
  · rwa [hs]
  · rw [hs]; exact inv_record h hr hl
  · rw [hs]; exact inv_step h hs

/-- A call that leaves the state alone on an error or refusal keeps the invariant when its next state does. -/
theorem inv_settle {s : State} {r : Result} (h : s.Inv) (hn : ∀ t, r = .next t → t.Inv) : (settle s r).1.Inv := by
  cases r with
  | next t => exact hn t rfl
  | fault f => exact h
  | refused r => exact h

/-- Before the first Reset no error is recorded, so the loader's byte cannot make one imprecise. -/
theorem inv_hostLoad {s t : State} {a : Word} {v : Byte} (h : s.Inv) (ht : hostLoad a v s = .next t) : t.Inv := by
  obtain ⟨hr, -, rfl⟩ := hostLoad_eq_next ht
  exact .of_fault_none (wf_memLoad h.memory_canonical a v) h.unused_clear (h.fault_none hr)

theorem inv_hostReset {s : State} (h : s.Inv) : (hostReset s).Inv :=
  h.congr rfl rfl rfl fun _ => rfl

theorem unused_setFlag (s : State) (f : Flag) (b : Bool) : (s.setFlag f b).unused = s.unused :=
  unused_putFlag f b s.status

theorem inv_hostSetFlag {s t : State} {ch : Char} {b : Bool} (h : s.Inv) (ht : hostSetFlag ch b s = .next t) :
    t.Inv := by
  obtain ⟨f, -, rfl⟩ := hostSetFlag_eq_next ht
  exact h.congr rfl (unused_setFlag s f b) rfl id

theorem unused_enterInterrupt (r : Word) (p : Byte) (v : Word) (s : State) :
    (enterInterrupt r p v s).unused = s.unused := by
  rw [State.unused, enterInterrupt_status, unused_putFlag]; rfl

theorem inv_nmi {s t : State} (h : s.Inv) (ht : nmi s = .next t) : t.Inv := by
  obtain ⟨⟨-, hf⟩, rfl⟩ := nmi_eq_next ht
  exact .of_fault_none (wf_enterInterrupt h.memory_canonical _ _ _)
    ((unused_enterInterrupt _ _ _ s).trans h.unused_clear) ((enterInterrupt_fault _ _ _ s).trans hf)

theorem inv_call {s : State} (h : s.Inv) (c : HostCall) : (call c s).1.Inv := by
  cases c with
  | load a v => exact inv_settle h fun _ => inv_hostLoad h
  | reset => exact inv_hostReset h
  | step => exact inv_settleStep h
  | nmi => exact inv_settle h fun _ => inv_nmi h
  | setFlag ch b => exact inv_settle h fun _ => inv_hostSetFlag h
  | getFlag ch =>
    simp only [call]
    split <;> exact h
  | read a => exact h

/-! ## The statements -/

/-- Settles O16: a Step that answers a next state ran one instruction, and every instruction keeps the invariant. -/
theorem stepKeepsTheInvariant : Obligations.StepKeepsTheInvariant :=
  fun _ _ => inv_step

/-- Settles O17: reset holds an empty memory, a zero Status and no recorded error. -/
theorem resetMeetsTheInvariant : Obligations.ResetMeetsTheInvariant :=
  .of_fault_none (by decide) (by decide) rfl

/-- Settles O18, by induction on the host's calls. -/
theorem reachableStatesMeetTheInvariant : Obligations.ReachableStatesMeetTheInvariant := by
  intro s h
  induction h with
  | construct cfg spInit image himage => exact inv_construct cfg spInit himage
  | call c _ ih => exact inv_call ih c

end Sys2Proof.Machine
end

section
/-! SUPPORT. D and I gate nothing (R35, R36, R158, D10): after an instruction the other flags, and everything but Status, are
the same whatever D or I was before it. -/

namespace Sys2Proof.Machine

/-! ## Status replaced after an operation, or before it -/

theorem advance_setStatus (d : Descriptor) (s : State) (q : Byte) :
    (advance d s).setStatus q = advance d (s.setStatus q) := rfl
theorem State.setAC_setStatus (s : State) (v q : Byte) : (s.setAC v).setStatus q = (s.setStatus q).setAC v := rfl
theorem State.setX_setStatus (s : State) (v q : Byte) : (s.setX v).setStatus q = (s.setStatus q).setX v := rfl
theorem State.setY_setStatus (s : State) (v q : Byte) : (s.setY v).setStatus q = (s.setStatus q).setY v := rfl
theorem State.setSP_setStatus (s : State) (v q : Byte) : (s.setSP v).setStatus q = (s.setStatus q).setSP v := rfl
theorem State.setPC_setStatus (s : State) (w : Word) (q : Byte) : (s.setPC w).setStatus q = (s.setStatus q).setPC w := rfl
theorem State.setStatus_setStatus (s : State) (p q : Byte) : (s.setStatus p).setStatus q = s.setStatus q := rfl
theorem State.setZN_setStatus (s : State) (v q : Byte) : (s.setZN v).setStatus q = s.setStatus q := rfl
theorem State.setFlag_setStatus (s : State) (f : Flag) (b : Bool) (q : Byte) :
    (s.setFlag f b).setStatus q = s.setStatus q := rfl
theorem pulled_setStatus (s : State) (q : Byte) : (pulled s).setStatus q = pulled (s.setStatus q) := rfl
theorem pulledWord_setStatus (s : State) (q : Byte) : (pulledWord s).setStatus q = pulledWord (s.setStatus q) := rfl

theorem memWrite_setStatus (a : Word) (v : Byte) (s : State) (q : Byte) :
    (memWrite a v s).setStatus q = memWrite a v (s.setStatus q) := by
  unfold memWrite
  split <;> rfl

theorem writeBack_setStatus (o : Operand) (d : Descriptor) (v : Byte) (s : State) (q : Byte) :
    (writeBack o d v s).setStatus q = writeBack o d v (s.setStatus q) := by
  unfold writeBack
  split
  · rfl
  · exact memWrite_setStatus d.val v s q

theorem push_setStatus (v : Byte) (s : State) (q : Byte) : (push v s).setStatus q = push v (s.setStatus q) := by
  rw [push, State.setSP_setStatus, memWrite_setStatus]; rfl

theorem pushWord_setStatus (w : Word) (s : State) (q : Byte) :
    (pushWord w s).setStatus q = pushWord w (s.setStatus q) := by
  rw [pushWord, push_setStatus, push_setStatus]; rfl

/-! ## What is read does not depend on a flag -/

theorem resolve_setFlag (o : Operand) (s : State) (f : Flag) (b : Bool) : resolve o (s.setFlag f b) = resolve o s := by
  cases o <;> rfl
theorem operandByte_setFlag (d : Descriptor) (s : State) (f : Flag) (b : Bool) :
    operandByte d (s.setFlag f b) = operandByte d s := rfl
theorem pullByte_setFlag (s : State) (f : Flag) (b : Bool) : pullByte (s.setFlag f b) = pullByte s := rfl
theorem pullWord_setFlag (s : State) (f : Flag) (b : Bool) : pullWord (s.setFlag f b) = pullWord s := rfl

/-! ## Instructions -/

theorem branchOn_setFlag {g f : Flag} (h : g ≠ f) (e b : Bool) (d : Descriptor) (s : State) (q : Byte) :
    (branchOn g e d (s.setFlag f b)).setStatus q = (branchOn g e d s).setStatus q := by
  unfold branchOn
  rw [flag_setFlag, if_neg h]
  split <;> rfl

theorem returnFromInterrupt_setFlag (s : State) (f : Flag) (b : Bool) (q : Byte) :
    (returnFromInterrupt (s.setFlag f b)).setStatus q = (returnFromInterrupt s).setStatus q := rfl

/-- Nothing but Status depends on D or I, save for PHP and BRK, which store it. -/
theorem handle_setFlag_setStatus {m : Mnemonic} {f : Flag} (hm : m ∉ [.php, .brk]) (hf : f ∈ [Flag.d, .i])
    (o : Operand) (s : State) (b : Bool) (q : Byte) :
    (handle m o (s.setFlag f b)).setStatus q = (handle m o s).setStatus q := by
  have hne (g : Flag) (hg : g ∉ [Flag.d, .i]) : g ≠ f := fun h => hg (h ▸ hf)
  cases m
  case php | brk => simp at hm
  case pla => cases h : s.config.plaSetsZN <;> simp [handle, h, resolve_setFlag, pullByte_setFlag, advance_setStatus,
    State.setZN_setStatus, State.setAC_setStatus, pulled_setStatus, State.setFlag_setStatus]
  all_goals simp [handle, handleLda, handleLdx, handleLdy, handleSta, handleStx, handleSty, handleAdc,
    handleSbc, handleInc, handleDec, handleAsl, handleLsr, handleRol, handleRor, shiftInto, handleAnd, handleOra,
    handleEor, handleBit, handleCmp, handleCpx, handleCpy, handleJmp,
    resolve_setFlag, operandByte_setFlag, pullByte_setFlag, pullWord_setFlag, branchOn_setFlag,
    returnFromInterrupt_setFlag, hne,
    advance_setStatus, State.setAC_setStatus, State.setX_setStatus, State.setY_setStatus, State.setSP_setStatus,
    State.setPC_setStatus, State.setStatus_setStatus, State.setZN_setStatus, State.setFlag_setStatus, pulled_setStatus,
    pulledWord_setStatus, memWrite_setStatus, writeBack_setStatus, push_setStatus, pushWord_setStatus]

/-- No flag but the one written depends on D or I. -/
theorem getFlag_statusAfter_setFlag {f g : Flag} (hf : f ∈ [Flag.d, .i]) (hg : g ≠ f) (m : Mnemonic)
    (o : Operand) (s : State) (b : Bool) :
    getFlag g (statusAfter m o (s.setFlag f b)) = getFlag g (statusAfter m o s) := by
  have hc : .c ≠ f := fun h => absurd (h ▸ hf) (by decide)
  cases m
  case pla => cases h : s.config.plaSetsZN <;> simp [statusAfter, h, pullByte_setFlag, State.setFlag_status,
    getFlag_putZN, getFlag_putFlag, hg]
  all_goals simp [statusAfter, resolve_setFlag, operandByte_setFlag, pullByte_setFlag, State.setFlag_status, getFlag_putFlag,
    getFlag_putZN, getFlag_adcStatus, getFlag_sbcStatus, getFlag_compareStatus, getFlag_bitStatus,
    getFlag_shiftStatus, getFlag_plpStatus, hg, hc]

/-- Two runs of a mnemonic from states that differ in D or I alone end in states that differ at most there. -/
theorem handle_setFlag {m : Mnemonic} {f : Flag} (hm : m ∉ [.php, .brk]) (hf : f ∈ [Flag.d, .i]) (o : Operand)
    (s : State) (b : Bool) : (handle m o (s.setFlag f b)).setFlag f b = (handle m o s).setFlag f b := by
  have hstatus : putFlag f b (handle m o (s.setFlag f b)).status = putFlag f b (handle m o s).status := by
    rw [handle_status, handle_status]
    refine status_ext (fun g => ?_) ?_
    · rw [getFlag_putFlag, getFlag_putFlag]
      split
      · rfl
      · next hg => exact getFlag_statusAfter_setFlag hf hg m o s b
    · simp [unusedBit_statusAfter, State.unused, State.setFlag_status]
  calc (handle m o (s.setFlag f b)).setFlag f b
      = (handle m o (s.setFlag f b)).setStatus (putFlag f b (handle m o s).status) := by rw [← hstatus]; rfl
    _ = (handle m o s).setFlag f b := handle_setFlag_setStatus hm hf o s b _

/-! ## The statement -/

/-- Settles O27: both runs are the mnemonic's handler, on states that differ in the one flag. -/
theorem decimalAndInterruptFlagsGateNothing : Obligations.DecimalAndInterruptFlagsGateNothing := by
  intro i s t u f b hf hm ht hu
  rw [(exec_next_iff i s t).mp ht, (exec_next_iff i _ u).mp hu]
  exact handle_setFlag hm hf i.operand s b

end Sys2Proof.Machine
end

section
/-! SUPPORT. Memory and the stack (20_memory.md): what a write, a push, a pull, the loader, an instruction and a host call
leave unchanged. -/

namespace Sys2Proof.Machine

/-! ## Frames of the operations over memory and SP -/

theorem Frame.refl (regs : List Reg) (flags : List Flag) (s : State) : Frame regs flags s s :=
  ⟨fun _ _ => rfl, fun _ _ => rfl, rfl, rfl, rfl, rfl⟩

/-- What two operations in a row leave unchanged: what neither of them names. -/
theorem Frame.trans {regs regs' : List Reg} {flags flags' : List Flag} {s t u : State} (h : Frame regs flags s t)
    (h' : Frame regs' flags' t u) : Frame (regs ++ regs') (flags ++ flags') s u where
  reg_kept r hr := by
    rw [List.mem_append, not_or] at hr
    exact (h'.reg_kept r hr.2).trans (h.reg_kept r hr.1)
  flag_kept f hf := by
    rw [List.mem_append, not_or] at hf
    exact (h'.flag_kept f hf.2).trans (h.flag_kept f hf.1)
  unused_kept := h'.unused_kept.trans h.unused_kept
  resetDone_kept := h'.resetDone_kept.trans h.resetDone_kept
  fault_kept := h'.fault_kept.trans h.fault_kept
  config_kept := h'.config_kept.trans h.config_kept

theorem frame_memLoad (a : Word) (v : Byte) (s : State) : Frame [] [] s (memLoad a v s) where
  reg_kept r _ := by cases r <;> rfl
  flag_kept _ _ := rfl
  unused_kept := rfl
  resetDone_kept := rfl
  fault_kept := rfl
  config_kept := rfl

theorem frame_memWrite (a : Word) (v : Byte) (s : State) : Frame [] [] s (memWrite a v s) := by
  cases h : guarded a with
  | true => rw [memWrite_guarded h]; exact .refl _ _ s
  | false => rw [memWrite_ram h]; exact frame_memLoad a v s

theorem frame_setSP (v : Byte) (s : State) : Frame [.sp] [] s (s.setSP v) where
  reg_kept r hr := by
    cases r with
    | sp => simp at hr
    | ac | x | y => rfl
  flag_kept _ _ := rfl
  unused_kept := rfl
  resetDone_kept := rfl
  fault_kept := rfl
  config_kept := rfl

theorem frame_push (v : Byte) (s : State) : Frame [.sp] [] s (push v s) :=
  (frame_memWrite (stackAddr s.sp) v s).trans (frame_setSP (s.sp - 1) _)

/-! ## Memory outside the byte written -/

theorem memoryKeptExcept_memLoad (a : Word) (v : Byte) (s : State) : MemoryKeptExcept [a] s (memLoad a v s) :=
  fun b hb => by rw [memRead_memLoad, if_neg (by simpa using hb)]

theorem memoryKeptExcept_memWrite (a : Word) (v : Byte) (s : State) : MemoryKeptExcept [a] s (memWrite a v s) :=
  fun _ hb => memRead_memWrite_of_ne (by simpa using hb) v s

theorem memoryKeptExcept_push (v : Byte) (s : State) : MemoryKeptExcept [stackAddr s.sp] s (push v s) :=
  memoryKeptExcept_memWrite (stackAddr s.sp) v s

theorem memRead_pushWord_rom {b : Word} (hb : 0x8000 ≤ b.toNat) (w : Word) (s : State) :
    memRead b (pushWord w s) = memRead b s := by
  rw [pushWord, memRead_push_rom hb, memRead_push_rom hb]

theorem memRead_enterInterrupt_rom {b : Word} (hb : 0x8000 ≤ b.toNat) (r : Word) (p : Byte) (v : Word) (s : State) :
    memRead b (enterInterrupt r p v s) = memRead b s :=
  calc memRead b (enterInterrupt r p v s)
      = memRead b (push p (pushWord r s)) := rfl
    _ = memRead b s := by rw [memRead_push_rom hb, memRead_pushWord_rom hb]

/-! ## Memory after an instruction, said once -/

/-- The state once a mnemonic has made its memory writes (R54); its `mem` alone is that of the state after the instruction. -/
def stored (m : Mnemonic) (o : Operand) (s : State) : State :=
  let d := resolve o s
  let v := operandByte d s
  match m with
  | .sta => memWrite d.val s.ac s
  | .stx => memWrite d.val s.x s
  | .sty => memWrite d.val s.y s
  | .inc => writeBack o d (v + 1) s
  | .dec => writeBack o d (v - 1) s
  | .asl => writeBack o d (aslResult v) s
  | .lsr => writeBack o d (lsrResult v) s
  | .rol => writeBack o d (rolResult v (s.flag .c)) s
  | .ror => writeBack o d (rorResult v (s.flag .c)) s
  | .jsr => pushWord (s.pc + 2) s
  | .brk => enterInterrupt (s.pc + 2) (pushedStatus s.status) Config.brkVector s
  | .pha => push s.ac s
  | .php => push (pushedStatus s.status) s
  | _ => s

theorem handle_mem (m : Mnemonic) (o : Operand) (s : State) : (handle m o s).mem = (stored m o s).mem := by
  cases m
  case pla => cases h : s.config.plaSetsZN <;> simp [handle, stored, h]
  case bcc | bcs | beq | bne | bpl | bmi | bvc | bvs => exact branchOn_mem _ _ _ s
  all_goals rfl

/-- The only mnemonics that reach memory are the storing ones, and the shifts and rotates unless they work on AC. -/
theorem stored_mem_kept {m : Mnemonic} {o : Operand} (hstore : m ∉ storeMnemonics)
    (hshift : m ∈ shiftMnemonics → o.mode = .accumulator) (s : State) : (stored m o s).mem = s.mem := by
  cases m
  case sta | stx | sty | inc | dec | jsr | brk | pha | php => exact absurd (by decide) hstore
  case asl | lsr | rol | ror => simp [stored, writeBack, hshift (by decide)]
  all_goals rfl

/-- Every memory write of an instruction goes through the write guard. -/
theorem memRead_stored_rom {b : Word} (hb : 0x8000 ≤ b.toNat) (m : Mnemonic) (o : Operand) (s : State) :
    memRead b (stored m o s) = memRead b s := by
  cases m
  case sta | stx | sty => exact memRead_memWrite_rom hb _ _ s
  case inc | dec | asl | lsr | rol | ror => exact memRead_writeBack_rom hb _ _ _ s
  case jsr => exact memRead_pushWord_rom hb _ s
  case brk => exact memRead_enterInterrupt_rom hb _ _ _ s
  case pha | php => exact memRead_push_rom hb _ s
  all_goals rfl

theorem memRead_handle_rom {b : Word} (hb : 0x8000 ≤ b.toNat) (m : Mnemonic) (o : Operand) (s : State) :
    memRead b (handle m o s) = memRead b s := by
  rw [memRead_congr (handle_mem m o s), memRead_stored_rom hb]

/-! ## The ROM after a host call -/

theorem hostLoad_closed {a : Word} {s : State} (h : s.resetDone = true ∨ a.toNat < 0x8000) (v : Byte) :
    hostLoad a v s = .refused (.loaderClosed a) := by
  rw [← guarded_eq_false_iff] at h
  simp [hostLoad, h]

theorem hostLoad_open {a : Word} {s : State} (hr : s.resetDone = false) (ha : 0x8000 ≤ a.toNat) (v : Byte) :
    hostLoad a v s = .next (memLoad a v s) := by
  simp [hostLoad, hr, (guarded_iff a).mpr ha]

theorem memRead_step_rom {s t : State} {b : Word} (hb : 0x8000 ≤ b.toNat) (h : step s = .next t) :
    memRead b t = memRead b s := by
  obtain ⟨r, -, hr⟩ | ⟨-, -, hx⟩ | ⟨-, i, -, -, hn⟩ := step_cases s
  · rw [hr] at h; cases h
  · rw [hx] at h; cases h
  · rw [hn] at h; cases h
    exact memRead_handle_rom hb _ _ s

/-- A call that answers an error or a refusal writes no memory, so a byte is kept when the next state keeps it. -/
theorem memRead_settle {s : State} {r : Result} {b : Word} (h : ∀ t, r = .next t → memRead b t = memRead b s) :
    memRead b (settle s r).1 = memRead b s := by
  cases r with
  | next t => exact h t rfl
  | fault | refused => rfl

/-- A Step that answers an error records it and writes no memory. -/
theorem memRead_settleStep {s : State} {r : Result} {b : Word} (h : ∀ t, r = .next t → memRead b t = memRead b s) :
    memRead b (settleStep s r).1 = memRead b s := by
  cases r with
  | next t => exact h t rfl
  | fault | refused => rfl

theorem memRead_call_rom {s : State} {b : Word} (hr : s.resetDone = true) (hb : 0x8000 ≤ b.toNat) (c : HostCall) :
    memRead b (call c s).1 = memRead b s := by
  cases c with
  | load a v => rw [call, hostLoad_closed (.inl hr)]; rfl
  | reset => rfl
  | step => exact memRead_settleStep fun _ => memRead_step_rom hb
  | nmi =>
    refine memRead_settle fun t ht => ?_
    obtain ⟨-, rfl⟩ := nmi_eq_next ht
    exact memRead_enterInterrupt_rom hb _ _ _ s
  | setFlag ch v =>
    refine memRead_settle fun t ht => ?_
    obtain ⟨f, -, rfl⟩ := hostSetFlag_eq_next ht
    exact memRead_setFlag b s f v
  | getFlag ch => simp only [call]; split <;> rfl
  | read a => rfl

/-! ## The statements -/

/-- Settles O15: after the first Reset the loader is closed, and every other write of a call passes the write guard. -/
theorem romNeverChangesAfterReset : Obligations.RomNeverChangesAfterReset :=
  fun c _ _ hr ha => memRead_call_rom hr ha c

/-- Settles O14: `exec` is the mnemonic's handler, whose memory writes are those of `stored`. -/
theorem onlyStoringInstructionsWriteMemory : Obligations.OnlyStoringInstructionsWriteMemory := by
  intro i s t hstore hshift ht
  rw [(exec_next_iff i s t).mp ht]
  exact memRead_congr ((handle_mem _ _ s).trans (stored_mem_kept hstore hshift s))

/-- Settles O12: the two sides of the write guard. -/
theorem writeGuardDropsRomWrites : Obligations.WriteGuardDropsRomWrites := by
  intro a v s
  refine ⟨fun ha => memWrite_guarded ((guarded_iff a).mpr ha) v s, fun ha => ?_⟩
  have hself : memRead a (memWrite a v s) = v := by rw [memRead_memWrite_self, if_pos ha]
  exact ⟨hself, memoryKeptExcept_memWrite a v s, frame_memWrite a v s, memWrite_pc a v s⟩

/-- Settles O13: the slots are `stackAddr` of SP before a push and of SP after a pull. -/
theorem pushAndPullFollowSP : Obligations.PushAndPullFollowSP := by
  intro v s
  have hread : memRead (stackAddr s.sp) (push v s) = v := by rw [memRead_push, if_pos rfl]
  have hdec : (push v s).sp.toNat = (s.sp.toNat + 255) % 256 := by rw [push_sp]; bv_omega
  have hinc : (s.sp + 1).toNat = (s.sp.toNat + 1) % 256 := BitVec.toNat_add s.sp 1
  have hslot : (stackAddr (s.sp + 1)).toNat = 0x0100 + (s.sp.toNat + 1) % 256 := by rw [stackAddr_toNat, hinc]
  exact ⟨⟨stackAddr s.sp, stackAddr_toNat s.sp, hread, memoryKeptExcept_push v s, hdec, frame_push v s, push_pc v s⟩,
    ⟨stackAddr (s.sp + 1), hslot, rfl, hinc, frame_setSP (s.sp + 1) s, rfl, fun _ => rfl⟩⟩

/-- Settles O59: the loader's write past the guard before the first Reset, its refusal at any other time or address. -/
theorem loaderFillsRomBeforeReset : Obligations.LoaderFillsRomBeforeReset := by
  intro a v s
  refine ⟨fun hr ha => ⟨memLoad a v s, ?_, ?_, memoryKeptExcept_memLoad a v s, frame_memLoad a v s, rfl⟩, fun h => ?_⟩
  · rw [call, hostLoad_open hr ha]; rfl
  · rw [memRead_memLoad, if_pos rfl]
  · rw [call, hostLoad_closed h]; rfl

end Sys2Proof.Machine
end

section
/-! SUPPORT. What the opcode byte alone decides: whether it begins an instruction (R85), how long that instruction is (R82),
and so the instruction a Step runs (R88). -/

namespace Sys2Proof.Machine

/-! ## Lengths -/

theorem operand_bytes_length (o : Operand) : o.bytes.length = o.mode.nbytes := by
  cases o <;> rfl

theorem encode_length (i : Instr) : (encode i).length = 1 + i.mode.nbytes := by
  rw [encode, List.length_cons, operand_bytes_length, Nat.add_comm, Instr.mode]

/-! ## What a table entry makes -/

/-- A table entry makes only instructions whose encoding is the byte it stands under and its operand bytes, low byte first
(R80). -/
def EncodesUnder (b : Byte) : Entry → Prop
  | .f0 i => encode i = [b]
  | .f1 mk => ∀ o, encode (mk o) = [b, o]
  | .f2 mk => ∀ w, encode (mk w) = [b, lo w, hi w]

/-- The two tables of R83, by byte and by instruction, agree. -/
theorem opcodeTable_encodesUnder : opcodeTable.Forall fun row => EncodesUnder row.1 row.2 := by
  repeat' apply And.intro
  all_goals dsimp only [EncodesUnder, List.Forall]; intros; rfl

theorem encodesUnder_of_lookup {b : Byte} {e : Entry} (h : lookupOpcode b = some e) : EncodesUnder b e := by
  obtain ⟨pre, post, htable, -⟩ := List.lookup_eq_some_iff.mp h
  exact List.forall_iff_forall_mem.mp opcodeTable_encodesUnder (b, e) (by simp [htable])

theorem decode_eq_ok {b : Byte} {bs r : List Byte} {i : Instr} (h : decode (b :: bs) = .ok (i, r)) :
    ∃ e, lookupOpcode b = some e ∧ e.decode bs = .ok (i, r) := by
  cases hl : lookupOpcode b with
  | none => simp only [decode, hl] at h; cases h
  | some e => exact ⟨e, rfl, by simpa only [decode, hl] using h⟩

theorem encode_length_of_entry {b : Byte} {e : Entry} (he : EncodesUnder b e) {bs r : List Byte} {i : Instr}
    (hd : e.decode bs = .ok (i, r)) : (encode i).length = 1 + e.operandBytes := by
  unfold Entry.decode at hd
  split at hd <;> cases hd
  case h_1 => rw [show encode i = [b] from he]; rfl
  case h_2 | h_4 => rw [he]; rfl

/-- The length of a decoded instruction is 1 plus the operand count of its opcode byte (R84). -/
theorem encode_length_of_decode {b : Byte} {bs r : List Byte} {i : Instr} (h : decode (b :: bs) = .ok (i, r)) :
    some (encode i).length = (operandCount b).map (1 + ·) := by
  obtain ⟨e, hl, hd⟩ := decode_eq_ok h
  rw [operandCount, hl, encode_length_of_entry (encodesUnder_of_lookup hl) hd]; rfl

/-! ## Which bytes begin no instruction -/

/-- A list of bytes as a set: bit `n` says whether byte `n` is in it. -/
def byteMask : List Byte → Nat
  | [] => 0
  | b :: bs => 2 ^ b.toNat ||| byteMask bs

theorem byteMask_append (bs cs : List Byte) : byteMask (bs ++ cs) = byteMask bs ||| byteMask cs := by
  induction bs with
  | nil => simp [byteMask]
  | cons b bs ih => simp [byteMask, ih, Nat.or_assoc]

theorem testBit_byteMask (b : Byte) (bs : List Byte) : (byteMask bs).testBit b.toNat = decide (b ∈ bs) := by
  induction bs with
  | nil => simp [byteMask]
  | cons c bs ih => simp [byteMask, Nat.testBit_two_pow, ih, BitVec.toNat_inj, eq_comm]

/-- The list of R85 and the bytes of the table of R83 share the 256 bytes between them. -/
theorem byteMask_unassigned_xor_opcodes :
    byteMask unassignedBytes ^^^ byteMask (opcodeTable.map Prod.fst) = 2 ^ 256 - 1 := by
  simp only [unassignedBytes, opcodeTable, List.map_append, byteMask_append]
  rfl

theorem mem_unassignedBytes_iff (b : Byte) : b ∈ unassignedBytes ↔ b ∉ opcodeTable.map Prod.fst := by
  have h := congrArg (Nat.testBit · b.toNat) byteMask_unassigned_xor_opcodes
  simp only [Nat.testBit_xor, testBit_byteMask, Nat.testBit_two_pow_sub_one, b.isLt, decide_true] at h
  rw [bne_iff_ne, ne_eq, decide_eq_decide] at h
  tauto

theorem lookupOpcode_eq_none_iff (b : Byte) : lookupOpcode b = none ↔ b ∈ unassignedBytes := by
  rw [mem_unassignedBytes_iff, lookupOpcode, List.lookup_eq_none_iff, List.mem_map]
  simp only [bne_iff_ne, not_exists, not_and, ne_comm, ne_eq]

theorem decode_of_lookup_none {b : Byte} (h : lookupOpcode b = none) (bs : List Byte) :
    decode (b :: bs) = .error (.invalidOpcode b) := by
  simp only [decode, h]

/-! ## A Step that runs -/

theorem step_of_decode {s : State} {i : Instr} {rest : List Byte} (hs : s.Ready)
    (hd : decode (fetchBytes s) = .ok (i, rest)) : step s = exec i s := by
  simp only [step, (refuseCall_eq_none_iff s).mpr hs, hd]

/-! ## The statements -/

/-- Settles O3: the listed bytes are those with no table entry, and two more bytes are enough for any entry. -/
theorem invalidBytesAreTheListed105 : Obligations.InvalidBytesAreTheListed105 := by
  refine ⟨rfl, fun b b1 b2 rest => ⟨fun hb => ?_, fun hb => ?_⟩⟩
  · exact decode_of_lookup_none ((lookupOpcode_eq_none_iff b).mpr hb) _
  · obtain ⟨e, he⟩ := Option.ne_none_iff_exists'.mp (mt (lookupOpcode_eq_none_iff b).mp hb)
    exact decode_of_lookup he b1 b2 rest

/-- Settles O4: the operand bytes of a mode, and the operand count of the opcode byte. -/
theorem lengthFollowsFromModeAndOpcode : Obligations.LengthFollowsFromModeAndOpcode := by
  refine ⟨encode_length, fun m => by cases m <;> rfl, fun b bs bs' i i' r r' h h' => ?_⟩
  exact Option.some.inj ((encode_length_of_decode h).trans (encode_length_of_decode h').symm)

/-- Settles O7: the three bytes of the statement are those `step` fetches. -/
theorem stepRunsTheDecodedInstruction : Obligations.StepRunsTheDecodedInstruction :=
  fun _ _ _ => step_of_decode

end Sys2Proof.Machine
end

section
/-! SUPPORT. Operands (40_addressing.md): the operand a fetch reads is the one its mode makes of the bytes at PC + 1 and PC + 2,
and what each resolver gives for it. -/

namespace Sys2Proof.Machine

/-! ## The operand a fetch reads -/

/-- A decoded instruction's encoding is the bytes it was read from (R80). -/
theorem encode_append_of_decode {bs r : List Byte} {i : Instr} (h : decode bs = .ok (i, r)) : encode i ++ r = bs := by
  cases bs with
  | nil => cases h
  | cons b bs =>
    obtain ⟨e, hl, hd⟩ := decode_eq_ok h
    have he := encodesUnder_of_lookup hl
    unfold Entry.decode at hd
    split at hd <;> cases hd
    case h_1 => exact congrArg (· ++ r) he
    case h_2 o => exact congrArg (· ++ r) (he o)
    case h_4 => rw [he, lo_join, hi_join]; rfl

/-- The operand of a mode whose operand bytes are taken from `l` and `h`, low byte first (R80, R87). -/
def makeOperand : Mode → Byte → Byte → Operand
  | .accumulator, _, _ => .accumulator
  | .immediate, l, _ => .immediate l
  | .zeroPage, l, _ => .zeroPage l
  | .zeroPageX, l, _ => .zeroPageX l
  | .zeroPageY, l, _ => .zeroPageY l
  | .absolute, l, h => .absolute (join h l)
  | .absoluteX, l, h => .absoluteX (join h l)
  | .absoluteY, l, h => .absoluteY (join h l)
  | .indirect, l, h => .indirect (join h l)
  | .indexedIndirect, l, _ => .indexedIndirect l
  | .indirectIndexed, l, _ => .indirectIndexed l
  | .relative, l, _ => .relative l
  | .implicit, _, _ => .implicit

/-- An operand is its mode and its operand bytes. -/
theorem eq_makeOperand_of_bytes {o : Operand} {l h : Byte} {r : List Byte} (hb : o.bytes ++ r = [l, h]) :
    o = makeOperand o.mode l h := by
  cases o
  case accumulator | implicit => rfl
  case absolute w | absoluteX w | absoluteY w | indirect w =>
    obtain ⟨rfl, rfl, -⟩ : lo w = l ∧ hi w = h ∧ r = [] := by simpa [Operand.bytes] using hb
    simp only [makeOperand, Operand.mode, join_hi_lo]
  all_goals
    obtain ⟨rfl, -⟩ := List.cons_eq_cons.mp hb
    rfl

/-- The operand of the instruction at PC, from the bytes at PC + 1 and PC + 2. -/
theorem operand_of_fetch {s : State} {i : Instr} {rest : List Byte} (h : decode (fetchBytes s) = .ok (i, rest)) :
    i.operand = makeOperand i.mode (memRead (s.pc + 1) s) (memRead (s.pc + 2) s) :=
  eq_makeOperand_of_bytes (List.cons_eq_cons.mp (encode_append_of_decode h)).2

theorem resolve_of_fetch {s : State} {i : Instr} {rest : List Byte} (h : decode (fetchBytes s) = .ok (i, rest))
    {m : Mode} (hm : i.mode = m) :
    resolve i.operand s = resolve (makeOperand m (memRead (s.pc + 1) s) (memRead (s.pc + 2) s)) s := by
  rw [operand_of_fetch h, hm]

/-! ## Direct values (R116) -/

/-- Only the Immediate and Accumulator resolvers give the operand itself (R102, R111). -/
theorem resolve_direct_eq_false_iff (o : Operand) (s : State) :
    (resolve o s).direct = false ↔ o.mode ≠ .immediate ∧ o.mode ≠ .accumulator := by
  cases o <;> simp [resolve, Operand.mode]

theorem mode_eq_accumulator_iff (o : Operand) : o.mode = .accumulator ↔ o = .accumulator := by
  cases o <;> simp [Operand.mode]

theorem operandByte_address {d : Descriptor} (h : d.direct = false) (s : State) :
    operandByte d s = memRead d.val s := by
  simp [operandByte, h]

/-! ## Addresses in numbers -/

theorem zext16_add_toNat (a b : Byte) : (zext16 (a + b)).toNat = (a.toNat + b.toNat) % 256 := by
  rw [zext16_toNat, BitVec.toNat_add]

theorem add_zext16_toNat (w : Word) (b : Byte) : (w + zext16 b).toNat = (w.toNat + b.toNat) % 65536 := by
  rw [BitVec.toNat_add, zext16_toNat]

theorem join_toNat_low_first (h l : Byte) : (join h l).toNat = l.toNat + 256 * h.toNat := by
  rw [join_toNat]; omega

/-- A signed offset moves an address modulo 65536 (R112, D1). -/
theorem add_sext16_toNat (w : Word) (b : Byte) :
    ((w + sext16 b).toNat : Int) = ((w.toNat : Int) + b.toInt) % 65536 := by
  have hb : ((sext16 b).toNat : Int) = b.toInt % 65536 := by
    rw [sext16, BitVec.signExtend, BitVec.toNat_ofInt]; omega
  rw [BitVec.toNat_add]
  omega

theorem memRead16_toNat (a : Word) (s : State) :
    (memRead16 a s).toNat = (memRead a s).toNat + 256 * (memRead (a + 1) s).toNat :=
  join_toNat_low_first _ _

theorem zpRead16_toNat (zp : Byte) (s : State) :
    (zpRead16 zp s).toNat =
      (memRead (zext16 zp) s).toNat + 256 * (memRead (zpHighAddr s.config.zpPtrWrap zp) s).toNat :=
  join_toNat_low_first _ _

/-- The parameter decides for a pointer at 0xFF alone (R109, D2). -/
theorem zpHighAddr_toNat (w : ZpPtrWrap) (zp : Byte) :
    (zpHighAddr w zp).toNat =
      if zp = 0xFF then (if w = .linear then 0x0100 else 0x0000) else zp.toNat + 1 := by
  cases w <;> revert zp <;> decide

/-! ## PC after a sequential instruction (R118) -/

/-- A mnemonic that does not set PC itself ends in `advance`, whatever it does before. -/
theorem handle_pc {m : Mnemonic} (h : m ∉ controlMnemonics) (o : Operand) (s : State) :
    (handle m o s).pc = s.pc + BitVec.ofNat 16 (o.mode.nbytes + 1) := by
  cases m
  case bcc | bcs | beq | bne | bpl | bmi | bvc | bvs | jmp | jsr | rts | brk | rti => exact absurd (by decide) h
  case pla => cases hp : s.config.plaSetsZN <;> simp [handle, hp, resolve_nbytes]
  all_goals simp [handle, handleLda, handleLdx, handleLdy, handleSta, handleStx, handleSty, handleAdc, handleSbc,
    handleInc, handleDec, handleAsl, handleLsr, handleRol, handleRor, shiftInto, handleAnd, handleOra, handleEor,
    handleBit, handleCmp, handleCpx, handleCpy, resolve_nbytes]

theorem handle_pc_eq_nextPC {i : Instr} (h : i.mnemonic ∉ controlMnemonics) (s : State) :
    (handle i.mnemonic i.operand s).pc = nextPC i s := by
  rw [handle_pc h, nextPC, Instr.length, Nat.add_comm]; rfl

theorem nextPC_toNat (i : Instr) (s : State) : (nextPC i s).toNat = (s.pc.toNat + i.mode.nbytes + 1) % 65536 := by
  rw [nextPC, Instr.length, BitVec.toNat_add, BitVec.toNat_ofNat]; omega

/-! ## The rules' operand and encoding lines (R119) -/

theorem encodedByRule (i : Instr) : EncodedByRule i := by
  cases i <;> exact List.mem_of_elem_eq_true rfl

theorem mode_mem_acceptedModes (i : Instr) : i.mode ∈ acceptedModes i.mnemonic :=
  (List.of_mem_zip (encodedByRule i)).1

/-- Whether an opcode byte begins an instruction of this mnemonic in this mode; zeros stand for the operand bytes. -/
def decodesAs (m : Mnemonic) (p : Mode × Byte) : Bool :=
  match decode [p.2, 0x00, 0x00] with
  | .ok (i, _) => i.mnemonic = m && i.mode = p.1
  | .error _ => false

theorem all_rules_decodesAs (m : Mnemonic) : ((acceptedModes m).zip (ruleOpcodes m)).all (decodesAs m) = true := by
  cases m <;> rfl

/-- The opcode a rule gives a mode decodes to an instruction of that rule in that mode. -/
theorem decode_of_rule {m : Mnemonic} {mode : Mode} {b : Byte} (h : (mode, b) ∈ (acceptedModes m).zip (ruleOpcodes m)) :
    ∃ i r, decode [b, 0x00, 0x00] = .ok (i, r) ∧ i.mnemonic = m ∧ i.mode = mode := by
  have hd := List.all_eq_true.mp (all_rules_decodesAs m) _ h
  unfold decodesAs at hd
  split at hd
  · next i r hi => exact ⟨i, r, hi, by simpa using hd⟩
  · cases hd

theorem opcode_of_decode {b : Byte} {bs r : List Byte} {i : Instr} (h : decode (b :: bs) = .ok (i, r)) : i.opcode = b :=
  (List.cons_eq_cons.mp (encode_append_of_decode h)).1

/-- The operand count of an opcode is that of the mode its rule gives it (R84). -/
theorem operandCount_opcode (i : Instr) : operandCount i.opcode = some i.mode.nbytes := by
  obtain ⟨j, r, hj, -, hmode⟩ := decode_of_rule (encodedByRule i)
  have hlen := encode_length_of_decode hj
  rw [encode_length, hmode, eq_comm, Option.map_eq_some_iff] at hlen
  obtain ⟨n, hn, hlen⟩ := hlen
  rw [hn, Nat.add_left_cancel hlen]

/-- The mnemonics whose operand is a write address or a jump target in every mode they have. -/
def addressMnemonics : List Mnemonic :=
  [.sta, .stx, .sty, .jmp, .jsr, .bcc, .bcs, .beq, .bne, .bpl, .bmi, .bvc, .bvs, .inc, .dec]

theorem addressMnemonics_modes :
    ∀ m ∈ addressMnemonics, ∀ mode ∈ acceptedModes m, mode ≠ .immediate ∧ mode ≠ .accumulator := by decide

theorem shiftMnemonics_modes : ∀ m ∈ shiftMnemonics, ∀ mode ∈ acceptedModes m, mode ≠ .immediate := by decide

/-! ## The statements -/

/-- Settles O5: each rule's modes and opcodes side by side, and its opcodes decoded. -/
theorem operandsFitTheirInstructions : Obligations.OperandsFitTheirInstructions := by
  refine ⟨fun i => ⟨encodedByRule i, rfl, operandCount_opcode i⟩, fun m mode b h => ?_, fun i s h => ?_⟩
  · obtain ⟨i, r, hd, hm, hmode⟩ := decode_of_rule h
    exact ⟨i, hm, hmode, opcode_of_decode hd⟩
  · rw [resolve_direct_eq_false_iff]
    obtain hm | ⟨hm, hacc⟩ := h
    · exact addressMnemonics_modes _ hm _ (mode_mem_acceptedModes i)
    · exact ⟨shiftMnemonics_modes _ hm _ (mode_mem_acceptedModes i), hacc⟩

/-- Settles O19: the operand is its mode's, made of the byte at PC + 1. -/
theorem byteOperandsResolve : Obligations.ByteOperandsResolve := by
  intro s i rest hd
  refine ⟨?immediate, ?zeroPage, ?zeroPageX, ?zeroPageY, ?accumulator, ?implicit⟩ <;>
    intro hm <;> rw [resolve_of_fetch hd hm]
  case immediate | zeroPage | accumulator => exact ⟨zext16_toNat _, rfl, rfl⟩
  case zeroPageX | zeroPageY => exact ⟨zext16_add_toNat _ _, rfl, rfl⟩
  case implicit => exact ⟨rfl, rfl, rfl⟩

/-- Settles O20: the operand is its mode's, made of the bytes at PC + 1 and PC + 2. -/
theorem wordOperandsResolve : Obligations.WordOperandsResolve := by
  intro s i rest hd
  refine ⟨?absolute, ?absoluteX, ?absoluteY, ?relative⟩ <;> intro hm <;> rw [resolve_of_fetch hd hm]
  case absolute => exact ⟨join_toNat_low_first _ _, rfl, rfl⟩
  case absoluteX | absoluteY =>
    refine ⟨?_, rfl, rfl⟩
    rw [← join_toNat_low_first]
    exact add_zext16_toNat _ _
  case relative =>
    refine ⟨?_, rfl, rfl⟩
    have hpc := add_sext16_toNat (s.pc + 2) (memRead (s.pc + 1) s)
    rw [BitVec.toNat_add] at hpc
    exact hpc.trans (by simp)

/-- Settles O21: a word has its low byte first, and the pointer modes read one at the address their operand bytes name. -/
theorem pointerOperandsResolve : Obligations.PointerOperandsResolve := by
  refine ⟨fun a s => ?_, fun zp s => ?_, fun s i rest hd => ?_⟩
  · have ha : a + 1 = BitVec.ofNat 16 ((a.toNat + 1) % 65536) := by bv_omega
    rw [memRead16_toNat, ha]
  · refine ⟨_, zpHighAddr_toNat s.config.zpPtrWrap zp, ?_⟩
    rw [BitVec.ofNat_toNat]
    exact zpRead16_toNat zp s
  · refine ⟨?indirect, ?indexedIndirect, ?indirectIndexed⟩ <;> intro hm <;> rw [resolve_of_fetch hd hm]
    case indirect =>
      have hptr : join (memRead (s.pc + 2) s) (memRead (s.pc + 1) s) = memRead16 (s.pc + 1) s := by
        rw [memRead16, BitVec.add_assoc]; rfl
      rw [← hptr]
      exact ⟨rfl, rfl, rfl⟩
    case indexedIndirect =>
      have hzp (b x : Byte) : b + x = BitVec.ofNat 8 ((b.toNat + x.toNat) % 256) := by bv_omega
      rw [← hzp]
      exact ⟨rfl, rfl, rfl⟩
    case indirectIndexed => exact ⟨add_zext16_toNat _ _, rfl, rfl⟩

/-- Settles O22: only Immediate and Accumulator operands are direct values. -/
theorem operandByteFollowsTheMode : Obligations.OperandByteFollowsTheMode := by
  intro i s
  refine ⟨fun imm ho => ?_, fun hm => ?_, fun himm hacc => ?_⟩
  · rw [operandOf, ho]
    exact lo_zext16 imm
  · rw [operandOf, (mode_eq_accumulator_iff _).mp hm]
    exact lo_zext16 s.ac
  · exact operandByte_address ((resolve_direct_eq_false_iff _ s).mpr ⟨himm, hacc⟩) s

/-- Settles O23: `exec` is the mnemonic's handler, which leaves `nextPC` in PC. -/
theorem sequentialInstructionsAdvancePC : Obligations.SequentialInstructionsAdvancePC := by
  intro i s h
  refine ⟨_, exec_eq i s, ?_⟩
  rw [handle_pc_eq_nextPC h, nextPC_toNat]

end Sys2Proof.Machine
end

section
/-! SUPPORT. Loads, stores and transfers (41_load_store_transfer.md), and the frame of any instruction but RTI, read from the
tables of which instructions write which register and flag. -/

namespace Sys2Proof.Machine

/-! ## The frame of an instruction -/

/-- The registers a mnemonic is listed under in the table of R20. -/
def registersWritten (m : Mnemonic) : List Reg := [.ac, .x, .y, .sp].filter fun r => m ∈ registerWriters r

/-- The flags a mnemonic is listed under (R26, R30 to R36). -/
def flagsWritten (m : Mnemonic) : List Flag := [.n, .v, .b, .d, .i, .z, .c].filter fun f => m ∈ flagWriters f

theorem mem_registersWritten {m : Mnemonic} {r : Reg} : r ∈ registersWritten m ↔ m ∈ registerWriters r := by
  cases r <;> simp [registersWritten]

theorem mem_flagsWritten {m : Mnemonic} {f : Flag} : f ∈ flagsWritten m ↔ m ∈ flagWriters f := by
  cases f <;> simp [flagsWritten]

/-- An instruction changes at most what it is listed under; RTI, which also clears bit 5 of Status, is left out. -/
theorem frame_handle {i : Instr} {regs : List Reg} {flags : List Flag} (hregs : ∀ r ∈ registersWritten i.mnemonic, r ∈ regs)
    (hflags : ∀ f ∈ flagsWritten i.mnemonic, f ∈ flags) (hrti : i.mnemonic ≠ .rti) (s : State) :
    Frame regs flags s (handle i.mnemonic i.operand s) := by
  obtain ⟨hreset, hfault, hconfig⟩ := handle_hidden i.mnemonic i.operand s
  exact {
    reg_kept := fun r hr => handle_reg_kept (fun h => hr (hregs r (mem_registersWritten.mpr h))) (instr_wellFormed i) s
    flag_kept := fun f hf => handle_flag_kept (fun h => hf (hflags f (mem_flagsWritten.mpr h))) i.operand s
    unused_kept := by rw [handle_unused, if_neg hrti]
    resetDone_kept := hreset
    fault_kept := hfault
    config_kept := hconfig }

theorem ne_rti_of_sequential {m : Mnemonic} (h : m ∉ controlMnemonics) : m ≠ .rti := by
  rintro rfl
  exact h (by decide)

/-! ## Memory and flags after an instruction -/

theorem memoryKept_handle {i : Instr} (hstore : i.mnemonic ∉ storeMnemonics) (hshift : i.mnemonic ∉ shiftMnemonics)
    (s : State) : MemoryKept s (handle i.mnemonic i.operand s) :=
  onlyStoringInstructionsWriteMemory i s _ hstore (absurd · hshift) (exec_eq i s)

/-- The memory of a mnemonic that makes one guarded write is that of the write. -/
theorem memory_handle_of_memWrite {m : Mnemonic} {o : Operand} {a : Word} {v : Byte} {s : State}
    (h : stored m o s = memWrite a v s) :
    memRead a (handle m o s) = (if a.toNat < 0x8000 then v else memRead a s) ∧
      MemoryKeptExcept [a] s (handle m o s) := by
  have hmem : (handle m o s).mem = (memWrite a v s).mem := by rw [handle_mem, h]
  refine ⟨?_, fun b hb => ?_⟩ <;> rw [memRead_congr hmem]
  · exact memRead_memWrite_self a v s
  · exact memoryKeptExcept_memWrite a v s b hb

/-- Z and N after a mnemonic that ends its flag computation with `SetZN(v)` (R31). -/
theorem zn_handle {m : Mnemonic} {o : Operand} {s : State} {v p : Byte} (h : statusAfter m o s = putZN v p) :
    (handle m o s).flag .z = (v == 0) ∧ (handle m o s).flag .n = v.getLsbD 7 := by
  rw [State.flag, State.flag, handle_status, h, getFlag_putZN, getFlag_putZN]
  exact ⟨rfl, rfl⟩

/-! ## Loads (R130 to R132) -/

/-- Each load with its register. -/
def loads : List (Mnemonic × Reg) := [(.lda, .ac), (.ldx, .x), (.ldy, .y)]

theorem loads_write_register_and_zn : ∀ p ∈ loads,
    (∀ r ∈ registersWritten p.1, r ∈ [p.2]) ∧ (∀ f ∈ flagsWritten p.1, f ∈ [Flag.z, .n]) := by decide

theorem loads_sequential : ∀ p ∈ loads, p.1 ∉ controlMnemonics := by decide

theorem loads_not_storing : ∀ p ∈ loads, p.1 ∉ storeMnemonics ∧ p.1 ∉ shiftMnemonics := by decide

theorem handle_load {m : Mnemonic} {r : Reg} (h : (m, r) ∈ loads) (o : Operand) (s : State) :
    (handle m o s).reg r = operandByte (resolve o s) s ∧
      statusAfter m o s = putZN (operandByte (resolve o s) s) s.status := by
  simp only [loads, List.mem_cons, Prod.mk.injEq, List.not_mem_nil, or_false] at h
  obtain ⟨rfl, rfl⟩ | ⟨rfl, rfl⟩ | ⟨rfl, rfl⟩ := h <;> exact ⟨rfl, rfl⟩

/-! ## Stores (R133 to R135) -/

/-- Each store with its register. -/
def stores : List (Mnemonic × Reg) := [(.sta, .ac), (.stx, .x), (.sty, .y)]

theorem stores_write_no_register_or_flag : ∀ p ∈ stores,
    (∀ r ∈ registersWritten p.1, r ∈ []) ∧ (∀ f ∈ flagsWritten p.1, f ∈ []) := by decide

theorem stores_sequential : ∀ p ∈ stores, p.1 ∉ controlMnemonics := by decide

theorem stored_store {m : Mnemonic} {r : Reg} (h : (m, r) ∈ stores) (o : Operand) (s : State) :
    stored m o s = memWrite (resolve o s).val (s.reg r) s := by
  simp only [stores, List.mem_cons, Prod.mk.injEq, List.not_mem_nil, or_false] at h
  obtain ⟨rfl, rfl⟩ | ⟨rfl, rfl⟩ | ⟨rfl, rfl⟩ := h <;> rfl

/-! ## Transfers (R136 to R141) -/

/-- Each transfer with its source and its destination. -/
def transfers : List (Instr × Reg × Reg) :=
  [(.tax, .ac, .x), (.txa, .x, .ac), (.tay, .ac, .y), (.tya, .y, .ac), (.tsx, .sp, .x), (.txs, .x, .sp)]

theorem transfers_write_destination_and_zn : ∀ p ∈ transfers,
    (∀ r ∈ registersWritten p.1.mnemonic, r ∈ [p.2.2]) ∧
    (∀ f ∈ flagsWritten p.1.mnemonic, f ∈ if p.1 = .txs then [] else [Flag.z, .n]) := by decide

theorem transfers_sequential : ∀ p ∈ transfers, p.1.mnemonic ∉ controlMnemonics ∧ p.1.length = 1 := by decide

theorem transfers_not_storing : ∀ p ∈ transfers,
    p.1.mnemonic ∉ storeMnemonics ∧ p.1.mnemonic ∉ shiftMnemonics := by decide

theorem handle_transfer {i : Instr} {src dst : Reg} (h : (i, src, dst) ∈ transfers) (s : State) :
    (handle i.mnemonic i.operand s).reg dst = s.reg src ∧
      (i ≠ .txs → statusAfter i.mnemonic i.operand s = putZN (s.reg src) s.status) := by
  simp only [transfers, List.mem_cons, Prod.mk.injEq, List.not_mem_nil, or_false] at h
  obtain ⟨rfl, rfl, rfl⟩ | ⟨rfl, rfl, rfl⟩ | ⟨rfl, rfl, rfl⟩ | ⟨rfl, rfl, rfl⟩ | ⟨rfl, rfl, rfl⟩ | ⟨rfl, rfl, rfl⟩ := h
  case inr.inr.inr.inr.inr => exact ⟨rfl, fun htxs => absurd rfl htxs⟩
  all_goals exact ⟨rfl, fun _ => rfl⟩

/-! ## The statements -/

/-- Settles O28: `exec` is the mnemonic's handler; its value and flags are the operand's, its frame is the tables'. -/
theorem loadsCopyTheOperand : Obligations.LoadsCopyTheOperand := by
  intro i s r h
  obtain ⟨hregs, hflags⟩ := loads_write_register_and_zn _ h
  have hcontrol := loads_sequential _ h
  obtain ⟨hstore, hshift⟩ := loads_not_storing _ h
  obtain ⟨hvalue, hstatus⟩ := handle_load h i.operand s
  obtain ⟨hz, hn⟩ := zn_handle hstatus
  exact ⟨encodedByRule i, _, exec_eq i s, hvalue, hz, hn, handle_pc_eq_nextPC hcontrol s,
    frame_handle hregs hflags (ne_rti_of_sequential hcontrol) s, memoryKept_handle hstore hshift s⟩

/-- Settles O29: the one guarded write of a store is of its register, at the resolved address. -/
theorem storesWriteTheRegister : Obligations.StoresWriteTheRegister := by
  intro i s r h
  obtain ⟨hregs, hflags⟩ := stores_write_no_register_or_flag _ h
  have hcontrol := stores_sequential _ h
  obtain ⟨hwritten, hkept⟩ := memory_handle_of_memWrite (stored_store h i.operand s)
  exact ⟨encodedByRule i, _, exec_eq i s, hwritten, hkept, handle_pc_eq_nextPC hcontrol s,
    frame_handle hregs hflags (ne_rti_of_sequential hcontrol) s⟩

/-- Settles O30: as for the loads, with the source register for the operand; TXS writes no flag. -/
theorem transfersCopyARegister : Obligations.TransfersCopyARegister := by
  intro i s src dst h
  obtain ⟨hregs, hflags⟩ := transfers_write_destination_and_zn _ h
  obtain ⟨hcontrol, hlength⟩ := transfers_sequential _ h
  obtain ⟨hstore, hshift⟩ := transfers_not_storing _ h
  obtain ⟨hvalue, hstatus⟩ := handle_transfer h s
  have hpc : (handle i.mnemonic i.operand s).pc = s.pc + 1 := by
    rw [handle_pc_eq_nextPC hcontrol, nextPC, hlength]; rfl
  exact ⟨encodedByRule i, _, exec_eq i s, hvalue, fun htxs => zn_handle (hstatus htxs), hpc,
    frame_handle hregs hflags (ne_rti_of_sequential hcontrol) s, memoryKept_handle hstore hshift s⟩

end Sys2Proof.Machine
end

section
/-! SUPPORT. Arithmetic, increment and decrement (42_arithmetic.md): the sum and difference in numbers, V as the signed range
(R158), and the counts of memory bytes and index registers. -/

namespace Sys2Proof.Machine

/-! ## The sum and the difference in numbers -/

theorem adcResult_toNat (a v : Byte) (c : Bool) : (adcResult a v c).toNat = addWide a v c % 256 :=
  BitVec.toNat_ofNat _ _

/-- The `~value` of R151 (D22). -/
theorem xor_0xFF_eq_not (v : Byte) : v ^^^ 0xFF = ~~~v := BitVec.xor_allOnes

/-- SBC adds the complement of its operand (R151). -/
theorem sbcResult_eq_adcResult (a v : Byte) (c : Bool) : sbcResult a v c = adcResult a (~~~v) c := by
  rw [sbcResult, adcResult, xor_0xFF_eq_not]

theorem carryNat_cast (c : Bool) : (carryNat c : Int) = if c = true then 1 else 0 := by cases c <;> rfl

/-- The borrow is the complement of the carry (D22). -/
theorem one_sub_carryNat (c : Bool) : 1 - (carryNat c : Int) = if c = true then 0 else 1 := by cases c <;> rfl

theorem subWide_eq (a v : Byte) (c : Bool) :
    subWide a v c = (a.toNat : Int) - (v.toNat : Int) - (if c = true then 0 else 1) := by
  rw [subWide, one_sub_carryNat]

/-- C is 1 when no borrow was needed. -/
theorem not_decide_subWide_neg (a v : Byte) (c : Bool) : (!decide (subWide a v c < 0)) = decide (0 ≤ subWide a v c) := by
  rw [← decide_not, decide_eq_decide, Int.not_lt]

/-- The complement makes the sum of R151 exceed the difference by 256. -/
theorem addWide_not (a v : Byte) (c : Bool) : (addWide a (~~~v) c : Int) = subWide a v c + 256 := by
  have hv := v.isLt
  rw [addWide, subWide, BitVec.toNat_not]
  omega

theorem sbcResult_toNat (a v : Byte) (c : Bool) : ((sbcResult a v c).toNat : Int) = subWide a v c % 256 := by
  have h := addWide_not a v c
  rw [sbcResult_eq_adcResult, adcResult_toNat]
  omega

/-! ## V as the signed range (R158) -/

theorem and_0x80_ne_zero (b : Byte) : (b &&& 0x80 != 0) = negative b := by revert b; decide

theorem negative_eq_decide (b : Byte) : negative b = decide (128 ≤ b.toNat) := by revert b; decide

theorem signedValue_eq (b : Byte) : signedValue b = (b.toNat : Int) - (if 128 ≤ b.toNat then 256 else 0) := by
  revert b; decide

/-- Complementing a byte negates its signed value and takes 1 more away. -/
theorem signedValue_not (b : Byte) : signedValue (~~~b) = -signedValue b - 1 := by revert b; decide

/-- The V formula compares bit 7 of the result with bit 7 of each operand. -/
theorem overflow_eq (a v r : Byte) :
    overflow a v r = ((negative r != negative a) && (negative r != negative v)) := by
  rw [overflow, and_0x80_ne_zero, negative, BitVec.getLsbD_and, BitVec.getLsbD_xor, BitVec.getLsbD_xor]; rfl

/-- The V formula says that the result has the sign of neither operand. -/
theorem overflow_iff (a v r : Byte) :
    overflow a v r = true ↔
      ¬(128 ≤ r.toNat ↔ 128 ≤ a.toNat) ∧ ¬(128 ≤ r.toNat ↔ 128 ≤ v.toNat) := by
  simp only [overflow_eq, negative_eq_decide, Bool.and_eq_true, bne_iff_ne, ne_eq, decide_eq_decide]

theorem overflow_adcResult (a v : Byte) (c : Bool) :
    overflow a v (adcResult a v c) =
      let r := signedValue a + signedValue v + (if c = true then 1 else 0)
      decide (r < -128 ∨ 127 < r) := by
  have ha := a.isLt
  have hv := v.isLt
  have hc : carryNat c ≤ 1 := by cases c <;> decide
  rw [← carryNat_cast, Bool.eq_iff_iff, overflow_iff, decide_eq_true_iff, adcResult_toNat, addWide, signedValue_eq,
    signedValue_eq]
  omega

theorem overflow_sbcResult (a v : Byte) (c : Bool) :
    overflow a (v ^^^ 0xFF) (sbcResult a v c) =
      let r := signedValue a - signedValue v - (if c = true then 0 else 1)
      decide (r < -128 ∨ 127 < r) := by
  have hr : signedValue a + signedValue (~~~v) + (if c = true then 1 else 0) =
      signedValue a - signedValue v - (if c = true then 0 else 1) := by
    rw [signedValue_not, ← carryNat_cast, ← one_sub_carryNat]; omega
  rw [xor_0xFF_eq_not, sbcResult_eq_adcResult, overflow_adcResult, hr]

/-! ## ADC and SBC (R150, R151) -/

theorem handle_adc_ac {i : Instr} (h : i.mnemonic = .adc) (s : State) :
    (handle i.mnemonic i.operand s).ac = adcResult s.ac (operandOf i s) (s.flag .c) := by rw [h]; rfl

theorem handle_sbc_ac {i : Instr} (h : i.mnemonic = .sbc) (s : State) :
    (handle i.mnemonic i.operand s).ac = sbcResult s.ac (operandOf i s) (s.flag .c) := by rw [h]; rfl

theorem handle_adc_flag {i : Instr} (h : i.mnemonic = .adc) (s : State) (f : Flag) :
    (handle i.mnemonic i.operand s).flag f = getFlag f (adcStatus s.ac (operandOf i s) s.status) := by
  rw [State.flag, handle_status, h]; rfl

theorem handle_sbc_flag {i : Instr} (h : i.mnemonic = .sbc) (s : State) (f : Flag) :
    (handle i.mnemonic i.operand s).flag f = getFlag f (sbcStatus s.ac (operandOf i s) s.status) := by
  rw [State.flag, handle_status, h]; rfl

/-- The two additions of 42_arithmetic.md section 1. -/
def additions : List Mnemonic := [.adc, .sbc]

theorem additions_write_ac_and_cvzn : ∀ m ∈ additions,
    (∀ r ∈ registersWritten m, r ∈ [Reg.ac]) ∧ (∀ f ∈ flagsWritten m, f ∈ [Flag.c, .v, .z, .n]) := by decide

theorem additions_sequential : ∀ m ∈ additions, m ∉ controlMnemonics := by decide

theorem additions_not_storing : ∀ m ∈ additions, m ∉ storeMnemonics ∧ m ∉ shiftMnemonics := by decide

/-- An addition writes AC and C, V, Z, N, and ends as every sequential instruction does. -/
theorem handle_addition_kept {i : Instr} (h : i.mnemonic ∈ additions) (s : State) :
    (handle i.mnemonic i.operand s).pc = nextPC i s ∧
      Frame [.ac] [.c, .v, .z, .n] s (handle i.mnemonic i.operand s) ∧
      MemoryKept s (handle i.mnemonic i.operand s) := by
  obtain ⟨hregs, hflags⟩ := additions_write_ac_and_cvzn _ h
  have hcontrol := additions_sequential _ h
  obtain ⟨hstore, hshift⟩ := additions_not_storing _ h
  exact ⟨handle_pc_eq_nextPC hcontrol s, frame_handle hregs hflags (ne_rti_of_sequential hcontrol) s,
    memoryKept_handle hstore hshift s⟩

/-! ## INC and DEC (R152, R153) -/

/-- INC and DEC with what each adds modulo 256. -/
def memoryCounts : List (Mnemonic × Nat) := [(.inc, 1), (.dec, 255)]

theorem memoryCounts_write_zn : ∀ p ∈ memoryCounts,
    (∀ r ∈ registersWritten p.1, r ∈ []) ∧ (∀ f ∈ flagsWritten p.1, f ∈ [Flag.z, .n]) := by decide

theorem memoryCounts_sequential : ∀ p ∈ memoryCounts, p.1 ∉ controlMnemonics := by decide

theorem memoryCounts_address : ∀ p ∈ memoryCounts, p.1 ∈ addressMnemonics := by decide

/-- Taking 1 from a byte is adding 255 to it. -/
theorem byte_sub_one (b : Byte) : b - 1 = b + BitVec.ofNat 8 255 := BitVec.sub_eq_add_neg b 1

theorem byte_add_ofNat_toNat (b : Byte) (n : Nat) : (b + BitVec.ofNat 8 n).toNat = (b.toNat + n) % 256 := by
  rw [BitVec.toNat_add, BitVec.toNat_ofNat]; omega

/-- An instruction whose operand is an address reads the byte there. -/
theorem operandOf_address {i : Instr} (h : i.mnemonic ∈ addressMnemonics) (s : State) :
    operandOf i s = memRead (addressOf i s) s :=
  operandByte_address
    ((resolve_direct_eq_false_iff _ s).mpr (addressMnemonics_modes _ h _ (mode_mem_acceptedModes i))) s

/-- INC and DEC write one byte back through the write guard, and set Z and N from it whether or not the guard drops it. -/
theorem memoryCount_effect {i : Instr} {delta : Nat} (h : (i.mnemonic, delta) ∈ memoryCounts) (s : State) :
    stored i.mnemonic i.operand s = memWrite (addressOf i s) (operandOf i s + BitVec.ofNat 8 delta) s ∧
      statusAfter i.mnemonic i.operand s = putZN (operandOf i s + BitVec.ofNat 8 delta) s.status := by
  obtain ⟨-, hmode⟩ := addressMnemonics_modes _ (memoryCounts_address _ h) _ (mode_mem_acceptedModes i)
  simp only [memoryCounts, List.mem_cons, Prod.mk.injEq, List.not_mem_nil, or_false] at h
  obtain ⟨hm, rfl⟩ | ⟨hm, rfl⟩ := h <;> rw [hm]
  · exact ⟨writeBack_memory hmode _ _ s, rfl⟩
  · rw [← byte_sub_one]
    exact ⟨writeBack_memory hmode _ _ s, rfl⟩

/-! ## INX, DEX, INY and DEY (R154 to R157) -/

/-- Each count of an index register with its register and what it adds modulo 256. -/
def indexCounts : List (Instr × Reg × Nat) := [(.inx, .x, 1), (.dex, .x, 255), (.iny, .y, 1), (.dey, .y, 255)]

theorem indexCounts_write_register_and_zn : ∀ p ∈ indexCounts,
    (∀ r ∈ registersWritten p.1.mnemonic, r ∈ [p.2.1]) ∧
    (∀ f ∈ flagsWritten p.1.mnemonic, f ∈ [Flag.z, .n]) := by decide

theorem indexCounts_sequential : ∀ p ∈ indexCounts, p.1.mnemonic ∉ controlMnemonics ∧ p.1.length = 1 := by decide

theorem indexCounts_not_storing : ∀ p ∈ indexCounts,
    p.1.mnemonic ∉ storeMnemonics ∧ p.1.mnemonic ∉ shiftMnemonics := by decide

theorem handle_pc_eq_add_one {i : Instr} (hcontrol : i.mnemonic ∉ controlMnemonics) (hlength : i.length = 1) (s : State) :
    (handle i.mnemonic i.operand s).pc = s.pc + 1 := by
  rw [handle_pc_eq_nextPC hcontrol, nextPC, hlength]; rfl

theorem indexCount_effect {i : Instr} {r : Reg} {delta : Nat} (h : (i, r, delta) ∈ indexCounts) (s : State) :
    (handle i.mnemonic i.operand s).reg r = s.reg r + BitVec.ofNat 8 delta ∧
      statusAfter i.mnemonic i.operand s = putZN (s.reg r + BitVec.ofNat 8 delta) s.status := by
  simp only [indexCounts, List.mem_cons, Prod.mk.injEq, List.not_mem_nil, or_false] at h
  obtain ⟨rfl, rfl, rfl⟩ | ⟨rfl, rfl, rfl⟩ | ⟨rfl, rfl, rfl⟩ | ⟨rfl, rfl, rfl⟩ := h
  case inl | inr.inr.inl => exact ⟨rfl, rfl⟩
  all_goals
    rw [← byte_sub_one]
    exact ⟨rfl, rfl⟩

/-! ## The statements -/

/-- Settles O31: AC and Status are those of `adcResult` and `adcStatus` for the operand. -/
theorem adcAddsWithCarry : Obligations.AdcAddsWithCarry := by
  intro i s h
  have hac := handle_adc_ac h s
  have hflag (f : Flag) := (handle_adc_flag h s f).trans (getFlag_adcStatus f _ _ _)
  obtain ⟨hpc, hframe, hmem⟩ := handle_addition_kept (i := i) (by simp [h, additions]) s
  refine ⟨encodedByRule i, _, exec_eq i s, ?sum, hflag .c, ?v, ?z, ?n, hpc, hframe, hmem⟩ <;> rw [hac]
  case sum => exact adcResult_toNat _ _ _
  case v => exact hflag .v
  case z => exact hflag .z
  case n => exact hflag .n

/-- Settles O32: as for ADC, with `sbcResult` and `sbcStatus`. -/
theorem sbcSubtractsWithBorrow : Obligations.SbcSubtractsWithBorrow := by
  intro i s h v difference
  have hac := handle_sbc_ac h s
  have hflag (f : Flag) := (handle_sbc_flag h s f).trans (getFlag_sbcStatus f _ _ _)
  obtain ⟨hpc, hframe, hmem⟩ := handle_addition_kept (i := i) (by simp [h, additions]) s
  have hd : difference = subWide s.ac v (s.flag .c) := (subWide_eq _ _ _).symm
  rw [hd]
  refine ⟨_, exec_eq i s, ?difference, (hflag .c).trans (not_decide_subWide_neg _ _ _), ?v, ?z, ?n, hpc, hframe, hmem⟩ <;>
    rw [hac]
  case difference => exact sbcResult_toNat _ _ _
  case v => rw [← xor_0xFF_eq_not]; exact hflag .v
  case z => exact hflag .z
  case n => exact hflag .n

/-- Settles O33: the V formula of the sum, and of the sum with the complement. -/
theorem overflowIsSignedRange : Obligations.OverflowIsSignedRange := by
  intro i s t ht
  rw [(exec_next_iff i s t).mp ht]
  refine ⟨fun h => ?_, fun h => ?_⟩
  · rw [handle_adc_flag h, getFlag_adcStatus]
    exact overflow_adcResult _ _ _
  · rw [handle_sbc_flag h, getFlag_sbcStatus]
    exact overflow_sbcResult _ _ _

/-- Settles O34: the one guarded write of INC and DEC is of the byte Z and N are set from. -/
theorem incrementsAndDecrementsOfMemory : Obligations.IncrementsAndDecrementsOfMemory := by
  intro i s delta h
  obtain ⟨hregs, hflags⟩ := memoryCounts_write_zn _ h
  have hcontrol := memoryCounts_sequential _ h
  obtain ⟨hstored, hstatus⟩ := memoryCount_effect h s
  obtain ⟨hwritten, hkept⟩ := memory_handle_of_memWrite hstored
  obtain ⟨hz, hn⟩ := zn_handle hstatus
  have hbyte := byte_add_ofNat_toNat (operandOf i s) delta
  rw [operandOf_address (memoryCounts_address _ h)] at hbyte hwritten hz hn
  exact ⟨encodedByRule i, _, _, hbyte, exec_eq i s, hwritten, hkept, hz, hn,
    handle_pc_eq_nextPC hcontrol s, frame_handle hregs hflags (ne_rti_of_sequential hcontrol) s⟩

/-- Settles O35: the register and the flags are those of its old value plus 1 or 255. -/
theorem indexRegistersCountModulo256 : Obligations.IndexRegistersCountModulo256 := by
  intro i s r delta h
  obtain ⟨hregs, hflags⟩ := indexCounts_write_register_and_zn _ h
  obtain ⟨hcontrol, hlength⟩ := indexCounts_sequential _ h
  obtain ⟨hstore, hshift⟩ := indexCounts_not_storing _ h
  obtain ⟨hvalue, hstatus⟩ := indexCount_effect h s
  obtain ⟨hz, hn⟩ := zn_handle hstatus
  refine ⟨encodedByRule i, _, exec_eq i s, ?_, ?_, ?_, handle_pc_eq_add_one hcontrol hlength s,
    frame_handle hregs hflags (ne_rti_of_sequential hcontrol) s, memoryKept_handle hstore hshift s⟩ <;> rw [hvalue]
  · exact byte_add_ofNat_toNat _ _
  · exact hz
  · exact hn

end Sys2Proof.Machine
end

section
/-! SUPPORT. Shifts, rotates, logic, BIT and compares (43_shift_logic_compare.md): the bit a shift moves out and its result in
numbers, the flags of a comparison in numbers, and the frame of an instruction that writes no memory. -/

namespace Sys2Proof.Machine

/-! ## Sequential instructions that write no memory -/

/-- By the tables, a mnemonic writes nothing but these registers and flags, and PC as every sequential instruction does. -/
abbrev WritesOnly (regs : List Reg) (flags : List Flag) (m : Mnemonic) : Prop :=
  (∀ r ∈ registersWritten m, r ∈ regs) ∧ (∀ f ∈ flagsWritten m, f ∈ flags) ∧
    m ∉ controlMnemonics ∧ m ∉ storeMnemonics ∧ m ∉ shiftMnemonics

theorem handle_kept {i : Instr} {regs : List Reg} {flags : List Flag} (h : WritesOnly regs flags i.mnemonic) (s : State) :
    (handle i.mnemonic i.operand s).pc = nextPC i s ∧
      Frame regs flags s (handle i.mnemonic i.operand s) ∧
      MemoryKept s (handle i.mnemonic i.operand s) := by
  obtain ⟨hregs, hflags, hcontrol, hstore, hshift⟩ := h
  exact ⟨handle_pc_eq_nextPC hcontrol s, frame_handle hregs hflags (ne_rti_of_sequential hcontrol) s,
    memoryKept_handle hstore hshift s⟩

/-! ## Bytes in numbers -/

theorem beq_eq_decide_toNat (a v : Byte) : (a == v) = decide (a.toNat = v.toNat) := by
  rw [Bool.eq_iff_iff, beq_iff_eq, decide_eq_true_iff, BitVec.toNat_inj]

theorem getLsbD_zero_eq_decide (v : Byte) : v.getLsbD 0 = decide (v.toNat % 2 = 1) := Nat.testBit_zero _

/-- Bit 7 of the difference modulo 256. -/
theorem negative_sub (a v : Byte) : negative (a - v) = decide (128 ≤ (a.toNat + 256 - v.toNat) % 256) := by
  have hv := v.isLt
  rw [negative_eq_decide, BitVec.toNat_sub, decide_eq_decide]
  omega

/-! ## Shifts and rotates in numbers (R171 to R174) -/

theorem aslResult_toNat (v : Byte) : (aslResult v).toNat = 2 * v.toNat % 256 := by
  rw [aslResult, BitVec.toNat_shiftLeft, Nat.shiftLeft_eq, Nat.mul_comm]

theorem lsrResult_toNat (v : Byte) : (lsrResult v).toNat = v.toNat / 2 := by
  rw [lsrResult, BitVec.toNat_ushiftRight, Nat.shiftRight_eq_div_pow]

/-- The old carry enters the bit that the shift has cleared, so the `or` adds it. -/
theorem rolResult_toNat (v : Byte) (c : Bool) : (rolResult v c).toNat = (2 * v.toNat + carryNat c) % 256 := by
  revert v; cases c <;> decide

/-- The old carry enters the bit that the shift has cleared, so the `or` adds it. -/
theorem rorResult_toNat (v : Byte) (c : Bool) : (rorResult v c).toNat = v.toNat / 2 + 128 * carryNat c := by
  revert v; cases c <;> decide

/-- Each shift and rotate with its result and the bit it moves out, for an operand and an old carry. -/
def shiftRules (v c : Nat) : List (Mnemonic × Nat × Bool) :=
  [(.asl, 2 * v % 256, decide (128 ≤ v)), (.lsr, v / 2, decide (v % 2 = 1)),
    (.rol, (2 * v + c) % 256, decide (128 ≤ v)), (.ror, v / 2 + 128 * c, decide (v % 2 = 1))]

/-- The same for the instructions that work on AC. -/
def accumulatorShifts (v c : Nat) : List (Instr × Nat × Bool) :=
  [(.aslAccumulator, 2 * v % 256, decide (128 ≤ v)), (.lsrAccumulator, v / 2, decide (v % 2 = 1)),
    (.rolAccumulator, (2 * v + c) % 256, decide (128 ≤ v)), (.rorAccumulator, v / 2 + 128 * c, decide (v % 2 = 1))]

theorem rule_of_accumulatorShift {i : Instr} {v c r : Nat} {out : Bool} (h : (i, r, out) ∈ accumulatorShifts v c) :
    (i.mnemonic, r, out) ∈ shiftRules v c :=
  List.mem_map_of_mem (f := fun p => (p.1.mnemonic, p.2)) h

theorem accumulatorShifts_operand (v c : Nat) : ∀ p ∈ accumulatorShifts v c, p.1.operand = .accumulator := by
  simp [accumulatorShifts, Instr.operand]

theorem mem_shiftMnemonics_of_rule {m : Mnemonic} {v c r : Nat} {out : Bool} (h : (m, r, out) ∈ shiftRules v c) :
    m ∈ shiftMnemonics :=
  List.mem_map_of_mem (f := Prod.fst) h

theorem shifts_sequential : ∀ m ∈ shiftMnemonics, m ∉ controlMnemonics := by decide

/-- A shift or rotate is `shiftInto` of the byte and the bit its rule gives in numbers. -/
theorem handle_shift {m : Mnemonic} {o : Operand} {s : State} {r : Nat} {out : Bool}
    (h : (m, r, out) ∈ shiftRules (operandByte (resolve o s) s).toNat (carryNat (s.flag .c))) :
    ∃ b : Byte, b.toNat = r ∧ handle m o s = shiftInto o (resolve o s) out b s := by
  simp only [shiftRules, ← negative_eq_decide, ← getLsbD_zero_eq_decide, List.mem_cons, Prod.mk.injEq,
    List.not_mem_nil, or_false] at h
  obtain ⟨rfl, rfl, rfl⟩ | ⟨rfl, rfl, rfl⟩ | ⟨rfl, rfl, rfl⟩ | ⟨rfl, rfl, rfl⟩ := h
  · exact ⟨_, aslResult_toNat _, rfl⟩
  · exact ⟨_, lsrResult_toNat _, rfl⟩
  · exact ⟨_, rolResult_toNat _ _, rfl⟩
  · exact ⟨_, rorResult_toNat _ _, rfl⟩

/-! ## What the shared shift leaves (R170) -/

theorem flag_shiftInto (o : Operand) (d : Descriptor) (out : Bool) (r : Byte) (s : State) (f : Flag) :
    (shiftInto o d out r s).flag f =
      if f = .n then negative r else if f = .z then r == 0 else if f = .c then out else s.flag f :=
  getFlag_shiftStatus f out r s.status

/-- A shift writes C, Z and N, and AC only in Accumulator mode. -/
theorem frame_shiftInto {regs : List Reg} {o : Operand} (h : o.mode = .accumulator → .ac ∈ regs) (d : Descriptor)
    (out : Bool) (r : Byte) (s : State) : Frame regs [.c, .z, .n] s (shiftInto o d out r s) where
  reg_kept g hg := by
    cases g with
    | ac => exact writeBack_ac (fun ho => hg (h ho)) d r s
    | x => exact writeBack_x o d r s
    | y => exact writeBack_y o d r s
    | sp => exact writeBack_sp o d r s
  flag_kept f hf := by
    simp only [List.mem_cons, List.not_mem_nil, or_false, not_or] at hf
    obtain ⟨hc, hz, hn⟩ := hf
    rw [flag_shiftInto, if_neg hn, if_neg hz, if_neg hc]
  unused_kept := unused_shiftStatus out r s.status
  resetDone_kept := writeBack_resetDone o d r s
  fault_kept := writeBack_fault o d r s
  config_kept := writeBack_config o d r s

/-- In a memory mode the shared shift makes one guarded write. -/
theorem memory_shiftInto {o : Operand} (h : o.mode ≠ .accumulator) (d : Descriptor) (out : Bool) (r : Byte) (s : State) :
    memRead d.val (shiftInto o d out r s) = (if d.val.toNat < 0x8000 then r else memRead d.val s) ∧
      MemoryKeptExcept [d.val] s (shiftInto o d out r s) := by
  have hmem : (shiftInto o d out r s).mem = (memWrite d.val r s).mem := by
    rw [← writeBack_memory h]; rfl
  refine ⟨?_, fun b hb => ?_⟩ <;> rw [memRead_congr hmem]
  · exact memRead_memWrite_self d.val r s
  · exact memoryKeptExcept_memWrite d.val r s b hb

/-! ## AND, ORA and EOR (R175 to R177) -/

theorem logic_writesOnly {m : Mnemonic} {f : Bool → Bool → Bool}
    (h : m = .and ∧ f = and ∨ m = .ora ∧ f = or ∨ m = .eor ∧ f = xor) : WritesOnly [.ac] [.z, .n] m := by
  obtain ⟨rfl, -⟩ | ⟨rfl, -⟩ | ⟨rfl, -⟩ := h <;> decide

/-- The three are one bitwise operation on AC, with Z and N from the AC it leaves. -/
theorem handle_logic {m : Mnemonic} {f : Bool → Bool → Bool}
    (h : m = .and ∧ f = and ∨ m = .ora ∧ f = or ∨ m = .eor ∧ f = xor) (o : Operand) (s : State) :
    (∀ k, (handle m o s).ac.getLsbD k = f (s.ac.getLsbD k) ((operandByte (resolve o s) s).getLsbD k)) ∧
      statusAfter m o s = putZN (handle m o s).ac s.status := by
  obtain ⟨rfl, rfl⟩ | ⟨rfl, rfl⟩ | ⟨rfl, rfl⟩ := h
  · exact ⟨fun _ => BitVec.getLsbD_and, rfl⟩
  · exact ⟨fun _ => BitVec.getLsbD_or, rfl⟩
  · exact ⟨fun _ => BitVec.getLsbD_xor, rfl⟩

/-! ## BIT (R178) -/

theorem bit_writesOnly : WritesOnly [] [.z, .v, .n] .bit := by decide

theorem handle_bit_flag {i : Instr} (h : i.mnemonic = .bit) (s : State) (f : Flag) :
    (handle i.mnemonic i.operand s).flag f = getFlag f (bitStatus s.ac (operandOf i s) s.status) := by
  rw [State.flag, handle_status, h]; rfl

/-! ## CMP, CPX and CPY (R179 to R182) -/

/-- Each compare with its register. -/
def compares : List (Mnemonic × Reg) := [(.cmp, .ac), (.cpx, .x), (.cpy, .y)]

theorem compares_writeOnly : ∀ p ∈ compares, WritesOnly [] [.c, .z, .n] p.1 := by decide

theorem handle_compare_flag {i : Instr} {r : Reg} (h : (i.mnemonic, r) ∈ compares) (s : State) (f : Flag) :
    (handle i.mnemonic i.operand s).flag f = getFlag f (compareStatus (s.reg r) (operandOf i s) s.status) := by
  rw [State.flag, handle_status]
  simp only [compares, List.mem_cons, Prod.mk.injEq, List.not_mem_nil, or_false] at h
  obtain ⟨hm, rfl⟩ | ⟨hm, rfl⟩ | ⟨hm, rfl⟩ := h <;> rw [hm] <;> rfl

/-! ## Shifts and rotates on AC and on memory (R171 to R174) -/

/-- On AC: the shared shift, whose write back is to AC. -/
theorem accumulatorShift_effect {i : Instr} {s : State} {r : Nat} {out : Bool}
    (h : (i, r, out) ∈ accumulatorShifts s.ac.toNat (carryNat (s.flag .c))) :
    ∃ t, exec i s = .next t ∧ t.ac.toNat = r ∧ t.flag .c = out ∧ t.flag .z = (t.ac == 0) ∧
      t.flag .n = t.ac.getLsbD 7 ∧ t.pc = s.pc + 1 ∧ Frame [.ac] [.c, .z, .n] s t ∧ MemoryKept s t := by
  have ho : i.operand = .accumulator := accumulatorShifts_operand _ _ _ h
  have hrule := rule_of_accumulatorShift h
  have hoperand : operandByte (resolve .accumulator s) s = s.ac := lo_zext16 s.ac
  rw [← hoperand] at hrule
  obtain ⟨b, rfl, hshift⟩ := handle_shift hrule
  have hflag := flag_shiftInto .accumulator (resolve .accumulator s) out b s
  rw [exec_eq, ho, hshift]
  exact ⟨_, rfl, rfl, hflag .c, hflag .z, hflag .n, rfl, frame_shiftInto (fun _ => by simp) _ out b s, fun _ => rfl⟩

/-- On a memory byte: the shared shift, whose write back is one guarded write. -/
theorem memoryShift_effect {i : Instr} {s : State} {r : Nat} {out : Bool} (hmode : i.mode ≠ .accumulator)
    (h : (i.mnemonic, r, out) ∈ shiftRules (memRead (addressOf i s) s).toNat (carryNat (s.flag .c))) :
    ∃ t, exec i s = .next t ∧
      memRead (addressOf i s) t =
        (if (addressOf i s).toNat < 0x8000 then BitVec.ofNat 8 r else memRead (addressOf i s) s) ∧
      MemoryKeptExcept [addressOf i s] s t ∧ t.flag .c = out ∧ t.flag .z = decide (r = 0) ∧
      t.flag .n = decide (128 ≤ r) ∧ t.pc = nextPC i s ∧ Frame [] [.c, .z, .n] s t := by
  have hm := mem_shiftMnemonics_of_rule h
  have hpc := handle_pc_eq_nextPC (shifts_sequential _ hm) s
  have hdirect := (resolve_direct_eq_false_iff _ s).mpr ⟨shiftMnemonics_modes _ hm _ (mode_mem_acceptedModes i), hmode⟩
  rw [addressOf, ← operandByte_address hdirect] at h
  obtain ⟨b, rfl, hshift⟩ := handle_shift h
  obtain ⟨hwritten, hkept⟩ := memory_shiftInto hmode (resolve i.operand s) out b s
  have hflag := flag_shiftInto i.operand (resolve i.operand s) out b s
  rw [hshift] at hpc
  rw [exec_eq, hshift, BitVec.ofNat_toNat, BitVec.setWidth_eq]
  exact ⟨_, rfl, hwritten, hkept, hflag .c, (hflag .z).trans (beq_eq_decide_toNat b 0),
    (hflag .n).trans (negative_eq_decide b), hpc, frame_shiftInto (absurd · hmode) _ out b s⟩

/-! ## The statements -/

/-- Settles O36: each is the shared shift of R170 with its rule's bit and byte, on AC or on memory. -/
theorem shiftsAndRotatesMoveOneBit : Obligations.ShiftsAndRotatesMoveOneBit :=
  ⟨fun i _ _ _ h => ⟨encodedByRule i, accumulatorShift_effect h⟩,
    fun i _ _ _ hmode h => ⟨encodedByRule i, memoryShift_effect hmode h⟩⟩

/-- Settles O37: AC is the bitwise operation, and Z and N are those of AC. -/
theorem logicCombinesBitwiseWithAC : Obligations.LogicCombinesBitwiseWithAC := by
  intro i s f h
  obtain ⟨hbits, hstatus⟩ := handle_logic h i.operand s
  obtain ⟨hz, hn⟩ := zn_handle hstatus
  obtain ⟨hpc, hframe, hmem⟩ := handle_kept (logic_writesOnly h) s
  exact ⟨encodedByRule i, _, exec_eq i s, fun k _ => hbits k, hz, hn, hpc, hframe, hmem⟩

/-- Settles O38: Status is that of `bitStatus`, and the tables list nothing else under BIT. -/
theorem bitTestsWithoutChangingAC : Obligations.BitTestsWithoutChangingAC := by
  intro i s h
  have hflag (f : Flag) := (handle_bit_flag h s f).trans (getFlag_bitStatus f _ _ _)
  obtain ⟨hpc, hframe, hmem⟩ := handle_kept (h ▸ bit_writesOnly) s
  exact ⟨encodedByRule i, _, exec_eq i s, hflag .z, hflag .v, hflag .n, hpc, hframe, hmem⟩

/-- Settles O39: Status is that of `compareStatus`, in numbers. -/
theorem comparesSetCarryZeroNegative : Obligations.ComparesSetCarryZeroNegative := by
  intro i s r h a v
  have hflag (f : Flag) := (handle_compare_flag h s f).trans (getFlag_compareStatus f _ _ _)
  obtain ⟨hpc, hframe, hmem⟩ := handle_kept (compares_writeOnly _ h) s
  exact ⟨encodedByRule i, _, exec_eq i s, hflag .c, (hflag .z).trans (beq_eq_decide_toNat _ _),
    (hflag .n).trans (negative_sub _ _), hpc, hframe, hmem⟩

end Sys2Proof.Machine
end

section
/-! SUPPORT. Control transfer (44_control_transfer.md): each branch, JMP, JSR and RTS as one assignment to PC, what that
assignment and the words on the stack leave unchanged, and the word a return finds. -/

namespace Sys2Proof.Machine

/-! ## Frames of PC and of words on the stack -/

/-- A frame that names more is a weaker statement. -/
theorem Frame.mono {regs regs' : List Reg} {flags flags' : List Flag} {s t : State} (h : Frame regs flags s t)
    (hregs : regs ⊆ regs') (hflags : flags ⊆ flags') : Frame regs' flags' s t where
  reg_kept r hr := h.reg_kept r fun hmem => hr (hregs hmem)
  flag_kept f hf := h.flag_kept f fun hmem => hf (hflags hmem)
  unused_kept := h.unused_kept
  resetDone_kept := h.resetDone_kept
  fault_kept := h.fault_kept
  config_kept := h.config_kept

theorem frame_setPC (w : Word) (s : State) : Frame [] [] s (s.setPC w) where
  reg_kept r _ := by cases r <;> rfl
  flag_kept _ _ := rfl
  unused_kept := rfl
  resetDone_kept := rfl
  fault_kept := rfl
  config_kept := rfl

theorem frame_pushWord (w : Word) (s : State) : Frame [.sp] [] s (pushWord w s) :=
  ((frame_push (hi w) s).trans (frame_push (lo w) _)).mono (by decide) (by decide)

theorem frame_pulledWord (s : State) : Frame [.sp] [] s (pulledWord s) := frame_setSP (s.sp + 1 + 1) s

/-! ## Words on the stack -/

theorem pushWord_sp_eq_sub_two (w : Word) (s : State) : (pushWord w s).sp = s.sp - 2 := BitVec.sub_sub s.sp 1 1

theorem pulledWord_sp_eq_add_two (s : State) : (pulledWord s).sp = s.sp + 2 := BitVec.add_assoc s.sp 1 1

theorem stackAddr_ne_stackAddr_sub_one (p : Byte) : stackAddr p ≠ stackAddr (p - 1) := by
  rw [Ne, stackAddr_inj]; bv_omega

theorem memRead_pushWord_high (w : Word) (s : State) : memRead (stackAddr s.sp) (pushWord w s) = hi w := by
  rw [memRead_pushWord, if_neg (stackAddr_ne_stackAddr_sub_one s.sp), if_pos rfl]

theorem memRead_pushWord_low (w : Word) (s : State) : memRead (stackAddr (s.sp - 1)) (pushWord w s) = lo w := by
  rw [memRead_pushWord, if_pos rfl]

theorem memoryKeptExcept_pushWord (w : Word) (s : State) :
    MemoryKeptExcept [stackAddr s.sp, stackAddr (s.sp - 1)] s (pushWord w s) := by
  intro a ha
  obtain ⟨hhigh, hlow⟩ : a ≠ stackAddr s.sp ∧ a ≠ stackAddr (s.sp - 1) := by simpa using ha
  rw [memRead_pushWord, if_neg hlow, if_neg hhigh]

theorem pullWord_toNat (s : State) :
    (pullWord s).toNat =
      (memRead (stackAddr (s.sp + 1)) s).toNat + 256 * (memRead (stackAddr (s.sp + 2)) s).toNat := by
  rw [pullWord_eq, join_toNat_low_first, BitVec.add_assoc]; rfl

/-- A word pushed is pulled again from any state with the SP and the two slots the push left. -/
theorem pullWord_of_pushed_slots {w : Word} {s body : State} (hsp : body.sp = (pushWord w s).sp)
    (hhigh : memRead (stackAddr s.sp) body = memRead (stackAddr s.sp) (pushWord w s))
    (hlow : memRead (stackAddr (s.sp - 1)) body = memRead (stackAddr (s.sp - 1)) (pushWord w s)) :
    pullWord body = w := by
  have hslot : body.sp + 1 = s.sp - 1 := by rw [hsp, pushWord_sp, BitVec.sub_add_cancel]
  rw [pullWord_eq, hslot, BitVec.sub_add_cancel, hhigh, hlow, memRead_pushWord_high, memRead_pushWord_low, join_hi_lo]

/-! ## Branches (R190 to R198) -/

/-- Each branch with the flag it tests and the value that takes it (D20). -/
def branches (off : Byte) : List (Instr × Flag × Bool) :=
  [(.bcc off, .c, false), (.bcs off, .c, true), (.beq off, .z, true), (.bne off, .z, false),
    (.bpl off, .n, false), (.bmi off, .n, true), (.bvc off, .v, false), (.bvs off, .v, true)]

theorem handle_branch {i : Instr} {off : Byte} {f : Flag} {expect : Bool} (h : (i, f, expect) ∈ branches off)
    (s : State) : handle i.mnemonic i.operand s = branchOn f expect (resolve (.relative off) s) s := by
  simp only [branches, List.mem_cons, Prod.mk.injEq, List.not_mem_nil, or_false] at h
  obtain ⟨rfl, rfl, rfl⟩ | ⟨rfl, rfl, rfl⟩ | ⟨rfl, rfl, rfl⟩ | ⟨rfl, rfl, rfl⟩ | ⟨rfl, rfl, rfl⟩ | ⟨rfl, rfl, rfl⟩ |
    ⟨rfl, rfl, rfl⟩ | ⟨rfl, rfl, rfl⟩ := h <;> rfl

/-- `Branch` writes PC and nothing else. -/
theorem branchOn_eq_setPC (f : Flag) (expect : Bool) (d : Descriptor) (s : State) :
    branchOn f expect d s = s.setPC (if s.flag f = expect then d.val else s.pc + 2) := by
  unfold branchOn
  split <;> rfl

/-- PC after a branch, in numbers: the signed offset counts from PC + 2 (R190, R112). -/
theorem branchOn_relative_pc (f : Flag) (expect : Bool) (off : Byte) (s : State) :
    ((branchOn f expect (resolve (.relative off) s) s).pc.toNat : Int) =
      (if s.flag f = expect then (s.pc.toNat : Int) + 2 + off.toInt else (s.pc.toNat : Int) + 2) % 65536 := by
  have hnext : (s.pc + 2).toNat = (s.pc.toNat + 2) % 65536 := BitVec.toNat_add s.pc 2
  rw [branchOn_pc]
  split
  · have htarget := add_sext16_toNat (s.pc + 2) off
    show ((s.pc + 2 + sext16 off).toNat : Int) = _
    omega
  · omega

/-! ## JMP, JSR and RTS (R199 to R201) -/

theorem exec_jmp {i : Instr} (h : i.mnemonic = .jmp) (s : State) : exec i s = .next (s.setPC (addressOf i s)) := by
  rw [exec_eq, h]; rfl

theorem exec_jsr (addr : Word) (s : State) : exec (.jsr addr) s = .next ((pushWord (s.pc + 2) s).setPC addr) := rfl

theorem exec_rts (s : State) : exec .rts s = .next ((pulledWord s).setPC (pullWord s + 1)) := rfl

theorem frame_jsr (addr : Word) (s : State) : Frame [.sp] [] s ((pushWord (s.pc + 2) s).setPC addr) :=
  (frame_pushWord (s.pc + 2) s).trans (frame_setPC addr _)

theorem frame_rts (s : State) : Frame [.sp] [] s ((pulledWord s).setPC (pullWord s + 1)) :=
  (frame_pulledWord s).trans (frame_setPC (pullWord s + 1) _)

/-! ## The statements -/

/-- Settles O40: each branch is the shared `Branch` of R190 with its own flag and value. -/
theorem branchesTestOneFlag : Obligations.BranchesTestOneFlag := by
  intro i s off f expect h
  refine ⟨branchOn f expect (resolve (.relative off) s) s, ?_, branchOn_relative_pc f expect off s, ?_, ?_⟩
  · rw [exec_eq, handle_branch h]
  · rw [branchOn_eq_setPC]
    exact frame_setPC _ s
  · exact memRead_congr (branchOn_mem f expect _ s)

/-- Settles O41: JMP assigns its resolved address to PC; the pointer's high byte is the one after its low byte (D3). -/
theorem jumpGoesToItsTarget : Obligations.JumpGoesToItsTarget := by
  intro i s h
  refine ⟨_, exec_jmp h s, rfl, fun w ho => ?_, fun p ho => ?_, frame_setPC _ s, fun _ => rfl⟩ <;>
    rw [State.setPC_pc, addressOf, ho]
  · rfl
  · exact memRead16_toNat p s

/-- Settles O42: JSR is a push of PC + 2 followed by an assignment to PC. -/
theorem jsrPushesItsLastByteAddress : Obligations.JsrPushesItsLastByteAddress := by
  intro addr s high low ret
  have hret : (s.pc + 2).toNat = ret := BitVec.toNat_add s.pc 2
  refine ⟨encodedByRule _, _, exec_jsr addr s, rfl, pushWord_sp_eq_sub_two _ s, ?_, ?_,
    memoryKeptExcept_pushWord (s.pc + 2) s, frame_jsr addr s⟩ <;> rw [memRead_setPC]
  · rw [memRead_pushWord_high, hi_toNat, hret]
  · rw [memRead_pushWord_low, lo_toNat, hret]

/-- Settles O43: RTS is a pull of a word followed by an assignment of its successor to PC. -/
theorem rtsPullsAndAddsOne : Obligations.RtsPullsAndAddsOne := by
  refine ⟨encodedByRule _, fun s => ⟨_, exec_rts s, ?_, pulledWord_sp_eq_add_two s, frame_rts s, fun _ => rfl⟩⟩
  rw [State.setPC_pc, BitVec.toNat_add, pullWord_toNat]; rfl

/-- Settles O44: the return pulls the PC + 2 the call pushed, and PC + 2 + 1 is PC + 3. -/
theorem callThenReturnComesBack : Obligations.CallThenReturnComesBack := by
  intro addr s t body hcall hsp hhigh hlow
  obtain rfl : (pushWord (s.pc + 2) s).setPC addr = t := Host.Outcome.next.inj ((exec_jsr addr s).symm.trans hcall)
  have hword : pullWord body = s.pc + 2 := pullWord_of_pushed_slots hsp hhigh hlow
  have hpc : pullWord body + 1 = s.pc + 3 := by rw [hword, BitVec.add_assoc]; rfl
  have hback : (pulledWord body).sp = s.sp :=
    calc (pulledWord body).sp = body.sp + 2 := pulledWord_sp_eq_add_two body
      _ = s.sp - 2 + 2 := by rw [hsp, State.setPC_sp, pushWord_sp_eq_sub_two]
      _ = s.sp := BitVec.sub_add_cancel s.sp 2
  exact ⟨_, exec_rts body, hpc, hback, frame_rts body, fun _ => rfl⟩

end Sys2Proof.Machine
end

section
/-! SUPPORT. BRK and RTI, the stack and flag instructions, NOP (45_interrupt_stack_flags.md): the frame an interrupt entry
leaves on the stack (R212), the return that finds it, and the status byte that PHP pushes and PLP takes back. -/

namespace Sys2Proof.Machine

/-! ## Interrupt entry (R212) -/

theorem frame_setFlag (f : Flag) (b : Bool) (s : State) : Frame [] [f] s (s.setFlag f b) where
  reg_kept r _ := by cases r <;> rfl
  flag_kept g hg := getFlag_putFlag_of_ne (by simpa using hg) b s.status
  unused_kept := unused_setFlag s f b
  resetDone_kept := rfl
  fault_kept := rfl
  config_kept := rfl

theorem frame_enterInterrupt (ret : Word) (p : Byte) (vector : Word) (s : State) :
    Frame [.sp] [.i] s (enterInterrupt ret p vector s) :=
  have hframed := (frame_pushWord ret s).trans (frame_push p _)
  ((hframed.trans (frame_setFlag .i true _)).trans (frame_setPC _ _)).mono (by decide) (by decide)

theorem flag_i_enterInterrupt (ret : Word) (p : Byte) (vector : Word) (s : State) :
    (enterInterrupt ret p vector s).flag .i = true := by
  rw [State.flag, enterInterrupt_status, getFlag_putFlag_self]

theorem enterInterrupt_sp_eq_sub_three (ret : Word) (p : Byte) (vector : Word) (s : State) :
    (enterInterrupt ret p vector s).sp = s.sp - 3 := by
  rw [enterInterrupt_sp, BitVec.sub_sub, BitVec.sub_sub]; rfl

/-- Memory after an interrupt entry is that of a word and a status byte pushed. -/
theorem memRead_enterInterrupt_eq_push (a : Word) (ret : Word) (p : Byte) (vector : Word) (s : State) :
    memRead a (enterInterrupt ret p vector s) = memRead a (push p (pushWord ret s)) := rfl

theorem memRead_enterInterrupt_status (ret : Word) (p : Byte) (vector : Word) (s : State) :
    memRead (stackAddr (s.sp - 2)) (enterInterrupt ret p vector s) = p := by
  rw [memRead_enterInterrupt_eq_push, memRead_push, if_pos (by rw [pushWord_sp_eq_sub_two])]

/-- The word of the frame lies above its status byte. -/
theorem memRead_enterInterrupt_of_ne {a : Word} {s : State} (h : a ≠ stackAddr (s.sp - 2)) (ret : Word) (p : Byte)
    (vector : Word) : memRead a (enterInterrupt ret p vector s) = memRead a (pushWord ret s) := by
  rw [memRead_enterInterrupt_eq_push, memRead_push, if_neg (by rwa [pushWord_sp_eq_sub_two])]

theorem stackAddr_ne_stackAddr_sub_two (sp : Byte) : stackAddr sp ≠ stackAddr (sp - 2) := by
  rw [Ne, stackAddr_inj]; bv_omega

theorem stackAddr_sub_one_ne_stackAddr_sub_two (sp : Byte) : stackAddr (sp - 1) ≠ stackAddr (sp - 2) := by
  rw [Ne, stackAddr_inj]; bv_omega

theorem memRead_enterInterrupt_high (ret : Word) (p : Byte) (vector : Word) (s : State) :
    memRead (stackAddr s.sp) (enterInterrupt ret p vector s) = hi ret := by
  rw [memRead_enterInterrupt_of_ne (stackAddr_ne_stackAddr_sub_two s.sp), memRead_pushWord_high]

theorem memRead_enterInterrupt_low (ret : Word) (p : Byte) (vector : Word) (s : State) :
    memRead (stackAddr (s.sp - 1)) (enterInterrupt ret p vector s) = lo ret := by
  rw [memRead_enterInterrupt_of_ne (stackAddr_sub_one_ne_stackAddr_sub_two s.sp), memRead_pushWord_low]

theorem memoryKeptExcept_enterInterrupt (ret : Word) (p : Byte) (vector : Word) (s : State) :
    MemoryKeptExcept [stackAddr s.sp, stackAddr (s.sp - 1), stackAddr (s.sp - 2)] s (enterInterrupt ret p vector s) := by
  intro a ha
  obtain ⟨hhigh, hlow, hstatus⟩ : a ≠ stackAddr s.sp ∧ a ≠ stackAddr (s.sp - 1) ∧ a ≠ stackAddr (s.sp - 2) := by
    simpa using ha
  rw [memRead_enterInterrupt_of_ne hstatus, memRead_pushWord, if_neg hlow, if_neg hhigh]

/-- PC after an interrupt entry, in numbers: the vector's word, low byte first. -/
theorem enterInterrupt_pc_toNat (ret : Word) (p : Byte) {vector : Word} (h0 : 0x8000 ≤ vector.toNat)
    (h1 : 0x8000 ≤ (vector + 1).toNat) (s : State) :
    (enterInterrupt ret p vector s).pc.toNat = (memRead vector s).toNat + 256 * (memRead (vector + 1) s).toNat := by
  rw [enterInterrupt_pc ret p h0 h1, memRead16_toNat]

/-! ## Return from an interrupt (R211) -/

theorem returnFromInterrupt_sp_eq_add_three (s : State) : (returnFromInterrupt s).sp = s.sp + 3 := by
  rw [returnFromInterrupt_sp, BitVec.add_assoc, BitVec.add_assoc]; rfl

theorem returnFromInterrupt_reg {r : Reg} (h : r ≠ .sp) (s : State) : (returnFromInterrupt s).reg r = s.reg r := by
  cases r with
  | sp => exact absurd rfl h
  | ac | x | y => rfl

theorem flag_returnFromInterrupt (s : State) (f : Flag) :
    (returnFromInterrupt s).flag f = if f = .b then false else getFlag f (pullByte s) :=
  getFlag_rtiStatus f (pullByte s)

theorem unused_returnFromInterrupt (s : State) : (returnFromInterrupt s).unused = false :=
  unused_rtiStatus (pullByte s)

/-- PC is the word above the status byte. -/
theorem returnFromInterrupt_pc_eq_pullWord (s : State) : (returnFromInterrupt s).pc = pullWord (pulled s) := rfl

theorem returnFromInterrupt_pc_toNat (s : State) :
    (returnFromInterrupt s).pc.toNat =
      (memRead (stackAddr (s.sp + 2)) s).toNat + 256 * (memRead (stackAddr (s.sp + 3)) s).toNat := by
  rw [returnFromInterrupt_pc_eq_pullWord, pullWord_toNat, pulled_sp, BitVec.add_assoc, BitVec.add_assoc]; rfl

/-! ## Bytes found again on the stack -/

/-- A byte pushed is pulled again from any state with the SP and the slot the push left. -/
theorem pullByte_of_pushed_slot {v : Byte} {s body : State} (hsp : body.sp = (push v s).sp)
    (hslot : memRead (stackAddr s.sp) body = memRead (stackAddr s.sp) (push v s)) : pullByte body = v := by
  rw [pullByte, hsp, push_sp, BitVec.sub_add_cancel, hslot, memRead_push, if_pos rfl]

/-- A return from any state with the SP and the three bytes an interrupt entry left finds the entry's frame. -/
theorem returnFromInterrupt_of_frame {ret : Word} {p : Byte} {vector : Word} {s handler : State}
    (hsp : handler.sp = (enterInterrupt ret p vector s).sp)
    (hframe : ∀ k, k ∈ [0, 1, 2] →
      memRead (stackAddr (s.sp - k)) handler = memRead (stackAddr (s.sp - k)) (enterInterrupt ret p vector s)) :
    pullByte handler = p ∧ (returnFromInterrupt handler).pc = ret ∧ (returnFromInterrupt handler).sp = s.sp := by
  have hhigh := hframe 0 (by decide)
  have hlow := hframe 1 (by decide)
  have hstatus := hframe 2 (by decide)
  rw [show s.sp - 0 = s.sp from BitVec.sub_zero s.sp, memRead_enterInterrupt_high] at hhigh
  rw [memRead_enterInterrupt_low] at hlow
  rw [← pushWord_sp_eq_sub_two ret, memRead_enterInterrupt_eq_push] at hstatus
  refine ⟨pullByte_of_pushed_slot hsp hstatus, ?pc, ?sp⟩
  case pc =>
    have hpulled : (pulled handler).sp = (pushWord ret s).sp := by
      rw [pulled_sp, hsp, enterInterrupt_sp, BitVec.sub_add_cancel, pushWord_sp]
    rw [returnFromInterrupt_pc_eq_pullWord]
    refine pullWord_of_pushed_slots hpulled ?_ ?_
    · rw [memRead_pushWord_high]; exact hhigh
    · rw [memRead_pushWord_low]; exact hlow
  case sp =>
    rw [returnFromInterrupt_sp_eq_add_three, hsp, enterInterrupt_sp_eq_sub_three, BitVec.sub_add_cancel]

/-- PLP takes back what PHP pushed: B and bit 5, forced in the pushed byte, come from the current Status. -/
theorem plpStatus_pushedStatus {p q : Byte} (h : q &&& 0x30 = p &&& 0x30) : plpStatus (pushedStatus p) q = p := by
  have hmask : q &&& Config.pushMask = p &&& Config.pushMask := h
  have hself : ∀ p : Byte, plpStatus (pushedStatus p) p = p := by decide
  rw [plpStatus, hmask]
  exact hself p

/-! ## Instructions -/

theorem exec_brk (s : State) :
    exec .brk s = .next (enterInterrupt (s.pc + 2) (pushedStatus s.status) Config.brkVector s) := rfl

theorem exec_rti (s : State) : exec .rti s = .next (returnFromInterrupt s) := rfl

theorem exec_php (s : State) :
    exec .php s = .next (advance (resolve .implicit s) (push (pushedStatus s.status) s)) := rfl

theorem exec_plp (s : State) :
    exec .plp s =
      .next (advance (resolve .implicit s) ((pulled s).setStatus (plpStatus (pullByte s) s.status))) := rfl

/-- PHA and PHP with the byte each pushes (R213, R214). -/
def pushes (s : State) : List (Instr × Byte) := [(.pha, s.ac), (.php, pushedStatus s.status)]

theorem exec_push {i : Instr} {v : Byte} {s : State} (h : (i, v) ∈ pushes s) :
    exec i s = .next (advance (resolve .implicit s) (push v s)) := by
  simp only [pushes, List.mem_cons, Prod.mk.injEq, List.not_mem_nil, or_false] at h
  obtain ⟨rfl, rfl⟩ | ⟨rfl, rfl⟩ := h <;> rfl

theorem frame_advance (d : Descriptor) (s : State) : Frame [] [] s (advance d s) := frame_setPC _ s

theorem pla_writesOnly : WritesOnly [.ac, .sp] [.z, .n] .pla := by decide

theorem plp_writesOnly : WritesOnly [.sp] [.n, .v, .d, .i, .z, .c] .plp := by decide

/-- PLA writes AC and SP with either value of its parameter. -/
theorem handle_pla_ac_sp (o : Operand) (s : State) :
    (handle .pla o s).ac = pullByte s ∧ (handle .pla o s).sp = s.sp + 1 := by
  cases h : s.config.plaSetsZN <;> simp [handle, h]

theorem statusAfter_pla_sets {s : State} (h : s.config.plaSetsZN = true) (o : Operand) :
    statusAfter .pla o s = putZN (pullByte s) s.status := if_pos h

theorem statusAfter_pla_keeps {s : State} (h : s.config.plaSetsZN = false) (o : Operand) :
    statusAfter .pla o s = s.status := by simp [statusAfter, h]

/-- The tables list Z and N under PLA; with the parameter false it keeps them too (R215, D4). -/
theorem frame_pla (s : State) :
    Frame [.ac, .sp] (if s.config.plaSetsZN then [.z, .n] else []) s (handle .pla .implicit s) := by
  obtain ⟨-, hframe, -⟩ := handle_kept (i := .pla) pla_writesOnly s
  cases h : s.config.plaSetsZN with
  | true => exact hframe
  | false =>
    have hstatus : (handle .pla .implicit s).status = s.status := by rw [handle_status, statusAfter_pla_keeps h]
    exact { hframe with flag_kept := fun f _ => flag_congr hstatus f }

/-- Each flag instruction with its flag and the value it writes (D20). -/
def flagInstructions : List (Instr × Flag × Bool) :=
  [(.clc, .c, false), (.sec, .c, true), (.cli, .i, false), (.sei, .i, true), (.cld, .d, false), (.sed, .d, true),
    (.clv, .v, false)]

theorem flagInstructions_writeOnly : ∀ p ∈ flagInstructions, WritesOnly [] [p.2.1] p.1.mnemonic := by decide

theorem flagInstructions_length : ∀ p ∈ flagInstructions, p.1.length = 1 := by decide

theorem statusAfter_flagInstruction {i : Instr} {f : Flag} {b : Bool} (h : (i, f, b) ∈ flagInstructions) (s : State) :
    statusAfter i.mnemonic i.operand s = putFlag f b s.status := by
  simp only [flagInstructions, List.mem_cons, Prod.mk.injEq, List.not_mem_nil, or_false] at h
  obtain ⟨rfl, rfl, rfl⟩ | ⟨rfl, rfl, rfl⟩ | ⟨rfl, rfl, rfl⟩ | ⟨rfl, rfl, rfl⟩ | ⟨rfl, rfl, rfl⟩ | ⟨rfl, rfl, rfl⟩ |
    ⟨rfl, rfl, rfl⟩ := h <;> rfl

/-! ## The statements -/

/-- Settles O45: BRK is the shared entry with PC + 2, the pushed status byte and its vector, which lies in the ROM. -/
theorem brkEntersThroughItsVector : Obligations.BrkEntersThroughItsVector := by
  refine ⟨encodedByRule _, fun s => ?_⟩
  have hret : (s.pc + 2).toNat = (s.pc.toNat + 2) % 65536 := BitVec.toNat_add s.pc 2
  refine ⟨_, exec_brk s, ?high, ?low, memRead_enterInterrupt_status _ _ _ s, memoryKeptExcept_enterInterrupt _ _ _ s,
    enterInterrupt_sp_eq_sub_three _ _ _ s, flag_i_enterInterrupt _ _ _ s,
    enterInterrupt_pc_toNat _ _ (by decide) (by decide) s, frame_enterInterrupt _ _ _ s⟩
  case high => rw [memRead_enterInterrupt_high, hi_toNat, hret]
  case low => rw [memRead_enterInterrupt_low, lo_toNat, hret]

/-- Settles O47: RTI is the shared return. -/
theorem rtiRestoresStatusAndPC : Obligations.RtiRestoresStatusAndPC :=
  ⟨encodedByRule _, fun s => ⟨_, exec_rti s, rfl, returnFromInterrupt_pc_toNat s,
    returnFromInterrupt_sp_eq_add_three s, flag_returnFromInterrupt s .b, unused_returnFromInterrupt s,
    fun _ hr => returnFromInterrupt_reg hr s, rfl, rfl, rfl, fun _ => rfl⟩⟩

/-- Settles O48: the return finds the frame of the BRK, whose status byte has every flag but B as it stood. -/
theorem breakThenReturnRestores : Obligations.BreakThenReturnRestores := by
  intro s t handler hbrk hsp hframe
  obtain rfl := Host.Outcome.next.inj ((exec_brk s).symm.trans hbrk)
  obtain ⟨hstatus, hpc, hback⟩ := returnFromInterrupt_of_frame hsp hframe
  refine ⟨_, exec_rti handler, hpc, hback, flag_returnFromInterrupt handler .b, unused_returnFromInterrupt handler,
    fun f hf => ?_, fun _ hr => returnFromInterrupt_reg hr handler, fun _ => rfl⟩
  rw [flag_returnFromInterrupt, if_neg hf, hstatus, getFlag_pushedStatus, if_neg hf]; rfl

/-- Settles O50: PHA and PHP are one push of their byte, ended as every sequential instruction is. -/
theorem pushInstructionsWriteTheirByte : Obligations.PushInstructionsWriteTheirByte := by
  intro i s v h
  refine ⟨encodedByRule i, _, exec_push h, ?byte, memoryKeptExcept_push v s, push_sp v s, push_status v s, ?pc,
    (frame_push v s).trans (frame_advance _ _)⟩
  case byte => rw [memRead_advance, memRead_push, if_pos rfl]
  case pc => rw [advance_pc, push_pc]; rfl

/-- Settles O51: AC and SP are those of a pull with either value of the parameter, which decides on Z and N alone. -/
theorem plaPullsAC : Obligations.PlaPullsAC := by
  intro s
  obtain ⟨hac, hsp⟩ := handle_pla_ac_sp .implicit s
  obtain ⟨hpc, -, hmem⟩ := handle_kept (i := .pla) pla_writesOnly s
  refine ⟨_, exec_eq .pla s, hac, hsp, fun hparam => ?_, hpc, frame_pla s, hmem⟩
  have hzn := zn_handle (statusAfter_pla_sets hparam .implicit)
  rwa [← hac] at hzn

/-- Settles O52: Status is that of `plpStatus`, and the tables list nothing else but SP under PLP. -/
theorem plpKeepsBAndBitFive : Obligations.PlpKeepsBAndBitFive := by
  refine ⟨encodedByRule _, fun s => ?_⟩
  obtain ⟨hpc, hframe, hmem⟩ := handle_kept (i := .plp) plp_writesOnly s
  refine ⟨_, exec_plp s, rfl, rfl, fun f hf => ?_, hpc, hframe, hmem⟩
  exact (getFlag_plpStatus f (pullByte s) s.status).trans (if_neg hf)

/-- Settles O53: PLP pulls the byte PHP pushed. -/
theorem phpThenPlpRestoresStatus : Obligations.PhpThenPlpRestoresStatus := by
  intro s t later hphp hsp hkept hslot
  obtain rfl := Host.Outcome.next.inj ((exec_php s).symm.trans hphp)
  have hpulled : pullByte later = pushedStatus s.status := pullByte_of_pushed_slot hsp hslot
  refine ⟨_, exec_plp later, ?status, ?sp⟩
  case status => rw [advance_status, State.setStatus_status, hpulled, plpStatus_pushedStatus hkept]
  case sp => rw [advance_sp, State.setStatus_sp, pulled_sp, hsp, advance_sp, push_sp, BitVec.sub_add_cancel]

/-- Settles O54: Status is that with the one flag written, and the tables list nothing else. -/
theorem flagInstructionsWriteOneFlag : Obligations.FlagInstructionsWriteOneFlag := by
  intro i s f b h
  obtain ⟨-, hframe, hmem⟩ := handle_kept (flagInstructions_writeOnly _ h) s
  obtain ⟨-, -, hcontrol, -⟩ := flagInstructions_writeOnly _ h
  refine ⟨_, exec_eq i s, ?_, handle_pc_eq_add_one hcontrol (flagInstructions_length _ h) s, hframe, hmem⟩
  rw [State.flag, handle_status, statusAfter_flagInstruction h, getFlag_putFlag_self]

/-- Settles O55: NOP is `advance` alone. -/
theorem nopOnlyAdvancesPC : Obligations.NopOnlyAdvancesPC :=
  ⟨encodedByRule _, fun _ => rfl⟩

end Sys2Proof.Machine
end

section
/-! SUPPORT. Errors, NMI and the flag accessors (60_exceptions.md): what Step and NMI answer when they are refused, run or
raise InvalidOpcode, the record no host call clears, an NMI and the RTI after it, and the seven named bits. -/

namespace Sys2Proof.Machine

/-! ## What Step and NMI answer -/

theorem step_of_lookup_none {s : State} (hs : s.Ready) (hl : lookupOpcode (memRead s.pc s) = none) :
    step s = .fault (invalidOpcodeAt s) := by
  simp only [step, (refuseCall_eq_none_iff s).mpr hs, fetchBytes, decode_of_lookup_none hl]

theorem step_eq_fault {s : State} {f : Fault} (h : step s = .fault f) :
    s.Ready ∧ lookupOpcode (memRead s.pc s) = none ∧ f = invalidOpcodeAt s := by
  obtain ⟨r, -, hr⟩ | ⟨hs, hl, hx⟩ | ⟨-, i, -, -, hn⟩ := step_cases s
  · rw [hr] at h; cases h
  · rw [hx] at h; cases h
    exact ⟨hs, hl, rfl⟩
  · rw [hn] at h; cases h

theorem call_step_of_refuseCall {s : State} {r : Refusal} (h : refuseCall s = some r) :
    call .step s = (s, .refused r) := by
  simp only [call, step, h, settleStep]

theorem call_nmi_of_refuseCall {s : State} {r : Refusal} (h : refuseCall s = some r) :
    call .nmi s = (s, .refused r) := by
  simp only [call, nmi, h, settle]

theorem refuseCall_of_recorded {s : State} {f : Fault} (hf : s.fault = some f) (hr : s.resetDone = true) :
    refuseCall s = some (.faulted f) := by
  simp only [refuseCall, hr, hf, if_true, Option.map_some]

theorem nmi_of_ready {s : State} (h : s.Ready) :
    nmi s = .next (enterInterrupt s.pc s.status Config.nmiVector s) := by
  simp only [nmi, (refuseCall_eq_none_iff s).mpr h]

/-! ## The recorded error -/

/-- A call that answers an error or a refusal records nothing, so the record is kept when the next state keeps it. -/
theorem fault_settle {s : State} {r : Result} (h : ∀ t, r = .next t → t.fault = s.fault) :
    (settle s r).1.fault = s.fault := by
  cases r with
  | next t => exact h t rfl
  | fault | refused => rfl

/-- Only a Step writes the record, and with an error recorded a Step is refused (R241, D8). -/
theorem fault_call {s : State} {f : Fault} (hf : s.fault = some f) (hr : s.resetDone = true) (c : HostCall) :
    (call c s).1.fault = s.fault := by
  have hrefused := refuseCall_of_recorded hf hr
  cases c with
  | load a v => rw [call, hostLoad_closed (.inl hr)]; rfl
  | reset => rfl
  | step => rw [call_step_of_refuseCall hrefused]
  | nmi => rw [call_nmi_of_refuseCall hrefused]
  | setFlag ch b =>
    refine fault_settle fun t ht => ?_
    obtain ⟨g, -, rfl⟩ := hostSetFlag_eq_next ht
    exact State.setFlag_fault s g b
  | getFlag ch => simp only [call]; split <;> rfl
  | read a => rfl

/-! ## NMI and the RTI after it (R253) -/

/-- RTI of a status byte pushed as it stands clears bit 5 and B in it (R211, C1). -/
theorem rtiStatus_eq_putFlag (p : Byte) : rtiStatus p = putFlag .b false (p &&& 0xDF) := by revert p; decide

theorem status_returnFromInterrupt_of_pullByte {s t : State} (h : pullByte t = s.status) :
    (returnFromInterrupt t).status = putFlag .b false (s.status &&& 0xDF) := by
  rw [returnFromInterrupt_status, h, rtiStatus_eq_putFlag]

/-- A return that pulls the SP and the Status from before an entry restores every register and flag, but B and bit 5. -/
theorem frame_returnFromInterrupt_of_entry {flags : List Flag} {s t : State} (hentry : Frame [.sp] flags s t)
    (hstatus : pullByte t = s.status) (hsp : (returnFromInterrupt t).sp = s.sp) :
    Frame [] [.b] { s with status := s.status &&& 0xDF } (returnFromInterrupt t) where
  reg_kept r _ := by
    have hother (hr : r ≠ .sp) : (returnFromInterrupt t).reg r = s.reg r :=
      (returnFromInterrupt_reg hr t).trans (hentry.reg_kept r (by simpa using hr))
    cases r with
    | sp => exact hsp
    | ac | x | y => exact hother (by decide)
  flag_kept f hf :=
    (congrArg (getFlag f) (status_returnFromInterrupt_of_pullByte hstatus)).trans
      (getFlag_putFlag_of_ne (by simpa using hf) false _)
  unused_kept :=
    (congrArg unusedBit (status_returnFromInterrupt_of_pullByte hstatus)).trans (unused_putFlag .b false _)
  resetDone_kept := hentry.resetDone_kept
  fault_kept := hentry.fault_kept
  config_kept := hentry.config_kept

/-! ## The flag accessors (R243, R244) -/

/-- The character of each named flag, exact and case-sensitive (D23), with its bit. -/
def flagNames : List (Char × Nat) := [('N', 7), ('V', 6), ('B', 4), ('D', 3), ('I', 2), ('Z', 1), ('C', 0)]

/-- `Flag.ofChar` knows the characters of the list and no other. -/
theorem mem_flagNames_iff (ch : Char) (k : Nat) :
    (ch, k) ∈ flagNames ↔ ∃ f, Flag.ofChar ch = some f ∧ f.bit = k := by
  constructor
  · intro h
    simp only [flagNames, List.mem_cons, Prod.mk.injEq, List.not_mem_nil, or_false] at h
    obtain ⟨rfl, rfl⟩ | ⟨rfl, rfl⟩ | ⟨rfl, rfl⟩ | ⟨rfl, rfl⟩ | ⟨rfl, rfl⟩ | ⟨rfl, rfl⟩ | ⟨rfl, rfl⟩ := h <;>
      exact ⟨_, rfl, rfl⟩
  · rintro ⟨f, hf, rfl⟩
    unfold Flag.ofChar at hf
    split_ifs at hf <;> subst ch <;> cases hf <;> decide

theorem ofChar_eq_none {ch : Char} (h : ∀ k, (ch, k) ∉ flagNames) : Flag.ofChar ch = none := by
  cases hf : Flag.ofChar ch with
  | none => rfl
  | some f => exact absurd ((mem_flagNames_iff ch f.bit).mpr ⟨f, hf, rfl⟩) (h f.bit)

/-- The mask of a flag holds its bit alone. -/
theorem getLsbD_flagMask (f : Flag) (j : Nat) : (1#8 <<< f.bit).getLsbD j = decide (j = f.bit) := by
  have hbit : f.bit < 8 := by cases f <;> decide
  rw [← BitVec.twoPow_eq, BitVec.getLsbD_twoPow]
  simp only [hbit, decide_true, Bool.true_and, eq_comm]

/-- Writing one flag writes its bit and no other, named or not. -/
theorem getLsbD_putFlag (f : Flag) (b : Bool) (p : Byte) (j : Nat) :
    (putFlag f b p).getLsbD j = if j = f.bit then b else p.getLsbD j := by
  cases b with
  | true =>
    rw [putFlag, if_pos rfl, BitVec.getLsbD_or, getLsbD_flagMask]
    by_cases hj : j = f.bit <;> simp [hj]
  | false =>
    rw [putFlag, if_neg Bool.false_ne_true, BitVec.getLsbD_and, BitVec.getLsbD_not, getLsbD_flagMask]
    by_cases hj : j = f.bit
    · simp [hj]
    · simpa [hj] using BitVec.lt_of_getLsbD

theorem call_getFlag_of_ofChar {ch : Char} {f : Flag} (h : Flag.ofChar ch = some f) (s : State) :
    call (.getFlag ch) s = (s, .flag (s.flag f)) := by
  simp only [call, hostGetFlag, h]

theorem call_setFlag_of_ofChar {ch : Char} {f : Flag} (h : Flag.ofChar ch = some f) (b : Bool) (s : State) :
    call (.setFlag ch b) s = (s.setFlag f b, .ok) := by
  simp only [call, hostSetFlag, h, settle]

theorem call_getFlag_of_unnamed {ch : Char} (h : Flag.ofChar ch = none) (s : State) :
    call (.getFlag ch) s = (s, .error (.invalidFlag ch)) := by
  simp only [call, hostGetFlag, h]

theorem call_setFlag_of_unnamed {ch : Char} (h : Flag.ofChar ch = none) (b : Bool) (s : State) :
    call (.setFlag ch b) s = (s, .error (.invalidFlag ch)) := by
  simp only [call, hostSetFlag, h, settle]

/-! ## The statements -/

/-- Settles O8: a fetch fails exactly on a byte with no table entry, and every other Step is refused or completes. -/
theorem invalidOpcodeIsPrecise : Obligations.InvalidOpcodeIsPrecise := by
  intro s
  refine ⟨fun hs hl => ?_, fun _ => step_eq_fault⟩
  have hstep := step_of_lookup_none hs hl
  exact ⟨hstep, by rw [call, hstep]; rfl⟩

/-- Settles O9: the recorded error is the reason of the refusal, and the other calls do not write `fault`. -/
theorem recordedErrorIsSticky : Obligations.RecordedErrorIsSticky := by
  intro s f hf hr
  have hrefused := refuseCall_of_recorded hf hr
  exact ⟨call_step_of_refuseCall hrefused, call_nmi_of_refuseCall hrefused, fun c => (fault_call hf hr c).trans hf⟩

/-- Settles O11: `exec` is the mnemonic's handler, and a Step of a running core cannot be refused. -/
theorem onlyInvalidOpcodeStopsAStep : Obligations.OnlyInvalidOpcodeStopsAStep := by
  refine ⟨fun i s => ⟨_, exec_eq i s, handle_hidden _ _ s⟩, fun s hs => ?_⟩
  obtain ⟨r, hr, -⟩ | ⟨-, -, hx⟩ | ⟨-, i, -, -, hn⟩ := step_cases s
  · rw [(refuseCall_eq_none_iff s).mpr hs] at hr; cases hr
  · exact .inr hx
  · exact .inl ⟨_, hn⟩

/-- Settles O46: NMI is the shared entry with PC, Status as it stands and its vector, which lies in the ROM. -/
theorem nmiEntersThroughItsVector : Obligations.NmiEntersThroughItsVector := by
  intro s hs
  refine ⟨_, nmi_of_ready hs, ?high, ?low, memRead_enterInterrupt_status _ _ _ s, memoryKeptExcept_enterInterrupt _ _ _ s,
    enterInterrupt_sp_eq_sub_three _ _ _ s, flag_i_enterInterrupt _ _ _ s,
    enterInterrupt_pc_toNat _ _ (by decide) (by decide) s, frame_enterInterrupt _ _ _ s⟩
  case high => rw [memRead_enterInterrupt_high, hi_toNat]
  case low => rw [memRead_enterInterrupt_low, lo_toNat]

/-- Settles O49: the return finds the frame the NMI left, and writes no memory. -/
theorem nmiThenReturnRestores : Obligations.NmiThenReturnRestores := by
  intro s t _ hnmi
  obtain ⟨-, ht⟩ := nmi_eq_next hnmi
  obtain ⟨hstatus, hpc, hback⟩ := returnFromInterrupt_of_frame (congrArg State.sp ht) fun k _ =>
    congrArg (memRead (stackAddr (s.sp - k))) ht
  subst ht
  exact ⟨_, exec_rti _, hpc, frame_returnFromInterrupt_of_entry (frame_enterInterrupt _ _ _ s) hstatus hback,
    flag_returnFromInterrupt _ .b, fun a ha =>
      (memRead_returnFromInterrupt a _).trans (memoryKeptExcept_enterInterrupt _ _ _ s a ha)⟩

/-- Settles O58: an accessor reaches the bit of the flag its character names, and a character that names none is an error. -/
theorem flagAccessorsReachSevenBits : Obligations.FlagAccessorsReachSevenBits := by
  refine ⟨fun s ch k b hname => ?named, fun s ch b hunnamed => ?unnamed⟩
  case named =>
    obtain ⟨f, hf, rfl⟩ := (mem_flagNames_iff ch k).mp hname
    refine ⟨call_getFlag_of_ofChar hf s, _, call_setFlag_of_ofChar hf b s, ?_, fun j hj => ?_⟩
    · rw [getLsbD_putFlag, if_pos rfl]
    · rw [getLsbD_putFlag, if_neg hj]
  case unnamed =>
    have hnone := ofChar_eq_none hunnamed
    exact ⟨call_getFlag_of_unnamed hnone s, call_setFlag_of_unnamed hnone b s⟩

end Sys2Proof.Machine
end

section
/-! SUPPORT. Reset and the launch state (70_reset_and_hazards.md): the refusal before the first Reset, the word Reset takes
PC from, and the state the first Reset leaves. -/

namespace Sys2Proof.Machine

/-! ## Before the first Reset (R270) -/

theorem refuseCall_before_reset {s : State} (h : s.resetDone = false) : refuseCall s = some .beforeReset := by
  rw [refuseCall, h, if_neg Bool.false_ne_true]

/-! ## What Reset writes (R271) -/

theorem hostReset_eq (s : State) :
    hostReset s = { s with pc := memRead16 Config.resetVector s, resetDone := true } := rfl

theorem memRead_hostReset (a : Word) (s : State) : memRead a (hostReset s) = memRead a s := by
  rw [hostReset, memRead_setResetDone, memRead_setPC]

theorem hostReset_pc_toNat (s : State) :
    (hostReset s).pc.toNat = (memRead 0xFFFC s).toNat + 256 * (memRead 0xFFFD s).toNat :=
  memRead16_toNat Config.resetVector s

/-- Reset marks the core as reset and keeps the record, so it readies a core with no recorded error (R270, R241). -/
theorem ready_hostReset {s : State} (h : s.fault = none) : (hostReset s).Ready := ⟨rfl, h⟩

/-! ## The statements -/

/-- Settles O10: the reason of the refusal is the missing Reset, and a refused call changes nothing. -/
theorem nothingRunsBeforeReset : Obligations.NothingRunsBeforeReset := by
  intro s h
  have hrefused := refuseCall_before_reset h
  exact ⟨call_step_of_refuseCall hrefused, call_nmi_of_refuseCall hrefused⟩

/-- Settles O56: the new PC is the word at the reset vector. -/
theorem resetReadsItsVector : Obligations.ResetReadsItsVector := by
  intro s
  refine ⟨memRead16 Config.resetVector s, hostReset_pc_toNat s, ?_⟩
  rw [call, hostReset_eq]

/-- Settles O57: Reset keeps the memory and every field of construction but PC and the mark of the first Reset. -/
theorem launchStateIsAsListed : Obligations.LaunchStateIsAsListed := by
  refine ⟨fun cfg spInit image => ?fields, ?instance_of_entries⟩
  case fields =>
    refine ⟨rfl, rfl, rfl, rfl, rfl, rfl, rfl, ?pc, ready_hostReset rfl⟩
    case pc => rw [State.launch, memRead_hostReset, memRead_hostReset, hostReset_pc_toNat]
  case instance_of_entries =>
    have hvector : memRead16 Config.resetVector (State.construct Config.vectorDefaults Config.spInit []) = 0x0000 := by
      decide
    rw [State.launch, hostReset_eq, hvector]
    rfl

end Sys2Proof.Machine
end

section
/-! SUPPORT. Decoding and encoding are inverse to each other (30_encoding.md sections 1 and 2). -/

namespace Sys2Proof.Laws.TableRow

/-- Every instruction is a row of the opcode table: the lemmas of this namespace, in the order of the constructors. -/
theorem all_rows (i : Instr) : Statement i :=
  i.casesOn
    ldaImmediate ldaZeroPage ldaZeroPageX ldaAbsolute ldaAbsoluteX ldaAbsoluteY ldaIndexedIndirect
    ldaIndirectIndexed ldxImmediate ldxZeroPage ldxZeroPageY ldxAbsolute ldxAbsoluteY ldyImmediate ldyZeroPage
    ldyZeroPageX ldyAbsolute ldyAbsoluteX staZeroPage staZeroPageX staAbsolute staAbsoluteX staAbsoluteY
    staIndexedIndirect staIndirectIndexed stxZeroPage stxZeroPageY stxAbsolute styZeroPage styZeroPageX styAbsolute
    tax txa tay tya txs tsx adcImmediate adcZeroPage adcZeroPageX adcAbsolute adcAbsoluteX adcAbsoluteY
    adcIndexedIndirect adcIndirectIndexed sbcImmediate sbcZeroPage sbcZeroPageX sbcAbsolute sbcAbsoluteX
    sbcAbsoluteY sbcIndexedIndirect sbcIndirectIndexed incZeroPage incZeroPageX incAbsolute incAbsoluteX decZeroPage
    decZeroPageX decAbsolute decAbsoluteX inx dex iny dey aslAccumulator aslZeroPage aslZeroPageX aslAbsolute
    aslAbsoluteX lsrAccumulator lsrZeroPage lsrZeroPageX lsrAbsolute lsrAbsoluteX rolAccumulator rolZeroPage
    rolZeroPageX rolAbsolute rolAbsoluteX rorAccumulator rorZeroPage rorZeroPageX rorAbsolute rorAbsoluteX
    andImmediate andZeroPage andZeroPageX andAbsolute andAbsoluteX andAbsoluteY andIndexedIndirect
    andIndirectIndexed oraImmediate oraZeroPage oraZeroPageX oraAbsolute oraAbsoluteX oraAbsoluteY
    oraIndexedIndirect oraIndirectIndexed eorImmediate eorZeroPage eorZeroPageX eorAbsolute eorAbsoluteX
    eorAbsoluteY eorIndexedIndirect eorIndirectIndexed bitZeroPage bitAbsolute cmpImmediate cmpZeroPage cmpZeroPageX
    cmpAbsolute cmpAbsoluteX cmpAbsoluteY cmpIndexedIndirect cmpIndirectIndexed cpxImmediate cpxZeroPage cpxAbsolute
    cpyImmediate cpyZeroPage cpyAbsolute bcc bcs beq bne bpl bmi bvc bvs jmpAbsolute jmpIndirect jsr rts brk rti pha
    php pla plp clc sec cli sei cld sed clv nop

end Sys2Proof.Laws.TableRow

namespace Sys2Proof.Machine

theorem decode_encode_append (i : Instr) (rest : List Byte) : decode (encode i ++ rest) = .ok (i, rest) := by
  obtain ⟨-, -, e, hlookup, hentry⟩ := Laws.TableRow.all_rows i
  simp only [encode, List.cons_append, decode, hlookup, hentry]

/-! ## The statements -/

/-- Settles O1: the table entry of the opcode byte makes the instruction of its operand bytes. -/
theorem decodeOfEncodeIsIdentity : Obligations.DecodeOfEncodeIsIdentity :=
  decode_encode_append

/-- Settles O2: the entry of the first byte makes only instructions that encode to the bytes it was given. -/
theorem encodeOfDecodeIsIdentity : Obligations.EncodeOfDecodeIsIdentity :=
  fun _ _ _ => encode_append_of_decode

/-- Settles O6: seven of the words are encodings, alone or with a byte after them, and 0x02 has no table entry. -/
theorem writtenOutWordsDecode : Obligations.WrittenOutWordsDecode :=
  ⟨decode_encode_append (.ldaImmediate 0xFF) [], decode_encode_append (.staAbsolute 0xFF01) [],
    decode_of_lookup_none rfl [0x00, 0x00], decode_encode_append (.adcIndirectIndexed 0x10) [],
    decode_encode_append .rorAccumulator [], decode_encode_append (.bne 0x80) [],
    decode_encode_append (.jmpIndirect 0x30FF) [], decode_encode_append .rti [0xEA]⟩

end Sys2Proof.Machine
end
